-- ==== Sys2Proof/Word.lean ====
section
/-! DEFINITION. The words of V2LED-TX and the sparse memory type (spec 00_scope.md R7, 20_memory.md R60). -/

namespace Sys2Proof

/-- A register word: every register is 32 bits wide (10_state.md R30). -/
abbrev Word := BitVec 32

/-- A frame-buffer byte, and one 8-bit channel value. -/
abbrev Byte := BitVec 8

/-- A pixel word {R[23:16], G[15:8], B[7:0]} (20_memory.md R65 (b)); also a 24-cell channel block. -/
abbrev Rgb := BitVec 24

/-- A host transaction T[38:0] = {WE, A[5:0], D[31:0]} (30_encoding.md R90). -/
abbrev Txn := BitVec 39

/-- A memory of `w`-bit entries: (index, entry) pairs. In canonical form (`Memory.wf`) the indices rise
strictly and no entry is 0, which is what an unlisted index reads as (every entry is 0 after power-on
reset, 70_reset_and_hazards.md R220). With w = 8 its cells are Host.Cell. -/
abbrev Memory (w : Nat) := List (Nat × BitVec w)

end Sys2Proof
end

