-- ==== Sys2Proof/Config.lean ====
section
/-! DEFINITION. The implementation parameters (spec 00_scope.md R5). A machine of the model carries its
parameters in the field State.params, which no step changes (log 1), so that a statement for every state
holds for every value of them. -/

namespace Sys2Proof

/-- A color channel of a pixel word. -/
inductive Channel where
  | r | g | b
  deriving DecidableEq, Repr

/-- CHANNEL_ORDER: the six permutations (c0, c1, c2) of (R, G, B), first sent first. -/
inductive ChannelOrder where
  | rgb | rbg | grb | gbr | brg | bgr
  deriving DecidableEq, Repr

/-- The parameters of one instance (00_scope.md R5). The widths give the ranges of LEAD_BYTES and
TRAIL_BYTES (0..255) whole; `Params.valid` states the others. -/
structure Params where
  /-- MAX_LEDS, 1..65535. -/
  maxLeds : BitVec 16
  /-- RESET_LED_COUNT, 0..MAX_LEDS. -/
  resetLedCount : BitVec 16
  /-- LEAD_BYTES, 0..255. -/
  leadBytes : BitVec 8
  /-- TRAIL_BYTES, 0..255. -/
  trailBytes : BitVec 8
  /-- CHANNEL_ORDER. -/
  channelOrder : ChannelOrder
  /-- CELL_CYCLES, at least 1 (timing only). -/
  cellCycles : Nat
  /-- RENDER_LATENCY, any count (timing only). -/
  renderLatency : Nat
  deriving DecidableEq, Repr

/-- The ranges of 00_scope.md R5 that the field types do not give. -/
abbrev Params.valid (p : Params) : Prop :=
  p.maxLeds ≠ 0#16 ∧ p.resetLedCount.toNat ≤ p.maxLeds.toNat ∧ 1 ≤ p.cellCycles

/-- Configuration EX of 95_test_vectors.md ("any" timing parameters taken as 1 and 0). `State.reset` is
this instance after power-on reset: DESIGN CHOICE, unsafe for a claim about `State.reset` alone (log 2). -/
def Config.ex : Params where
  maxLeds := 8
  resetLedCount := 4
  leadBytes := 1
  trailBytes := 2
  channelOrder := .grb
  cellCycles := 1
  renderLatency := 0

/-- Configuration EZ of 95_test_vectors.md, whose frame can be empty. -/
def Config.ez : Params :=
  { Config.ex with resetLedCount := 0, leadBytes := 0, trailBytes := 0 }

end Sys2Proof
end

