-- ==== Sys2Proof/Machine/State.lean ====
section
/-! DEFINITION. The state of V2LED-TX: the elements of 10_state.md R22, its ports as data, and the
environment's data (the host's transactions, the time input, the order of turns). -/

namespace Sys2Proof.Machine

/-- There is no fault: "V2LED-TX raises no exception and has no trap" (60_exceptions.md R200), and no
encoding is illegal (30_encoding.md R95). Having no constructor, it is safe: no step ends in one (log 15). -/
inductive Fault where
  deriving DecidableEq, Repr

/-- Why an instruction has no meaning. -/
inductive Refusal where
  /-- Raised by an arm of `exec` that has no meaning yet (none is left). Safe: the run stops. -/
  | notModelled (mnemonic : String)
  deriving DecidableEq, Repr

/-- Which agent (60_exceptions.md R209) or input moves next. -/
inductive Turn where
  /-- The host port: the presented transaction, unless it is held or none is presented. -/
  | host
  /-- The shifter: one cell, while a transfer is in flight. -/
  | shift
  /-- The time source: NOW_US presents this value from now on. -/
  | time (now : Word)
  /-- RST_N is low: power-on reset (70_reset_and_hazards.md R220). -/
  | powerOn
  /-- No agent has a step. -/
  | idle
  deriving DecidableEq, Repr

/-- The state. The elements of 10_state.md R22 come first, under its names. -/
structure State where
  /-- s.led_count -/
  ledCount : BitVec 16
  /-- s.reverse -/
  reverse : Bool
  /-- s.irq_en -/
  irqEn : Bool
  /-- s.dirty -/
  dirty : Bool
  /-- s.done -/
  done : Bool
  /-- s.err_range -/
  errRange : Bool
  /-- s.err_cmd -/
  errCmd : Bool
  /-- s.pix_index -/
  pixIndex : BitVec 16
  /-- s.frame_index -/
  frameIndex : BitVec 20
  /-- s.enc_in -/
  encIn : Byte
  /-- s.ov_color_stg -/
  ovColorStg : Rgb
  /-- s.ov_count_stg -/
  ovCountStg : BitVec 16
  /-- s.ov_dur_stg -/
  ovDurStg : Word
  /-- s.ov_active -/
  ovActive : Bool
  /-- s.ov_color -/
  ovColor : Rgb
  /-- s.ov_count -/
  ovCount : BitVec 16
  /-- s.ov_dur -/
  ovDur : Word
  /-- s.ov_start -/
  ovStart : Word
  /-- s.tx_active, the busy condition (10_state.md R25) -/
  txActive : Bool
  /-- s.tx_len -/
  txLen : BitVec 20
  /-- s.tx_count -/
  txCount : BitVec 16
  /-- s.tx_byte -/
  txByte : BitVec 20
  /-- s.tx_bit -/
  txBit : BitVec 3
  /-- pix[0..MAX_LEDS-1], the pixel store (back buffer) -/
  pix : Memory 24
  /-- frame[0..FRAME_CAP-1], the frame buffer (front buffer): a list of Host.Cell -/
  frame : Memory 8
  /-- Q, the read data of the transaction the last step performed: `some` exactly when that was a read
  (10_state.md R26; log 6) -/
  q : Option Word
  /-- the output trace of cells, oldest first (44_transfer_engine.md R178; log 8) -/
  trace : List Bool
  /-- the input NOW_US (10_state.md R26; log 5) -/
  nowUs : Word
  /-- the host's transactions in issue order; the head is presented (SEL = 1) and stays while it is held
  (30_encoding.md R97; log 3) -/
  port : List Txn
  /-- the turns the environment grants, first first (log 3) -/
  agenda : List Turn
  /-- the instance's parameters (00_scope.md R5), which no step changes (log 1) -/
  params : Params
  deriving DecidableEq, Repr

/-- What a step or a meaning answers. -/
abbrev Result := Host.Outcome State Fault Refusal

/-- The state after power-on reset of the instance `p`: the reset column of 10_state.md R22, with no
transaction presented, no turn granted, no cell sent and NOW_US at 0 (log 3, 5, 6, 8). -/
def State.powerOn (p : Params) : State where
  ledCount := p.resetLedCount
  reverse := false
  irqEn := false
  dirty := false
  done := false
  errRange := false
  errCmd := false
  pixIndex := 0
  frameIndex := 0
  encIn := 0
  ovColorStg := 0
  ovCountStg := 0
  ovDurStg := 0
  ovActive := false
  ovColor := 0
  ovCount := 0
  ovDur := 0
  ovStart := 0
  txActive := false
  txLen := 0
  txCount := 0
  txByte := 0
  txBit := 7
  pix := []
  frame := []
  q := none
  trace := []
  nowUs := 0
  port := []
  agenda := []
  params := p

/-- The machine right after reset, of the instance EX (log 2). -/
def State.reset : State := State.powerOn Config.ex

end Sys2Proof.Machine
end

