-- ==== Sys2Proof/Machine/Ops.lean ====
section
/-! DEFINITION. The operations over the two memories, the derived sizes, and the ways an operation ends
(spec 00_scope.md R6, R8, R9; 20_memory.md R60-R68). The spec gives the machine no exception to take and
none to return from (60_exceptions.md R200, R206): an error is a sticky flag, in Machine/Flags.lean. -/

namespace Sys2Proof

/-- Put an entry in front, unless it is 0, which an unlisted index reads as. -/
def Memory.put {w : Nat} (a : Nat) (v : BitVec w) (m : Memory w) : Memory w :=
  if v = 0#w then m else (a, v) :: m

/-- PixRead and FrameRead (00_scope.md R8): an index that is not listed reads 0. -/
def Memory.read {w : Nat} : Memory w → Nat → BitVec w
  | [], _ => 0#w
  | (b, u) :: m, a => if a = b then u else Memory.read m a

/-- PixWrite and FrameWrite (00_scope.md R8), keeping the canonical form. -/
def Memory.write {w : Nat} : Memory w → Nat → BitVec w → Memory w
  | [], a, v => Memory.put a v []
  | (b, u) :: m, a, v =>
    if a < b then Memory.put a v ((b, u) :: m)
    else if a = b then Memory.put a v m
    else (b, u) :: Memory.write m a v

/-- 0 written to every index below `n`. -/
def Memory.clearBelow {w : Nat} (n : Nat) (m : Memory w) : Memory w :=
  m.filter fun c => decide (n ≤ c.1)

/-- `v` written to every index below `n`. -/
def Memory.fillBelow {w : Nat} (n : Nat) (v : BitVec w) (m : Memory w) : Memory w :=
  if v = 0#w then Memory.clearBelow n m
  else (List.range n).map (fun i => (i, v)) ++ Memory.clearBelow n m

/-- The canonical form: indices strictly rising, no entry 0. -/
abbrev Memory.wf {w : Nat} (m : Memory w) : Prop :=
  m.Pairwise (fun c c' => c.1 < c'.1) ∧ ∀ c ∈ m, c.2 ≠ 0#w

namespace Machine

/-- L(N) = LEAD_BYTES + 9 N + TRAIL_BYTES (00_scope.md R6). -/
def frameLen (p : Params) (n : Nat) : Nat := p.leadBytes.toNat + 9 * n + p.trailBytes.toNat

/-- FRAME_CAP = LEAD_BYTES + 9 MAX_LEDS + TRAIL_BYTES (00_scope.md R6). -/
def frameCap (p : Params) : Nat := frameLen p p.maxLeds.toNat

/-- PixRead(i). -/
def pixRead (s : State) (i : Nat) : Rgb := Memory.read s.pix i

/-- FrameRead(j). -/
def frameRead (s : State) (j : Nat) : Byte := Memory.read s.frame j

/-- PixWrite(i, v). -/
def pixWrite (i : Nat) (v : Rgb) (s : State) : State := { s with pix := Memory.write s.pix i v }

/-- A read is performed: its data is on Q and nothing else changes (20_memory.md R69). -/
def answer (v : Word) (s : State) : Result := .next { s with q := some v }

/-- A write that changes nothing (41_config_status.md R128, R131; 44_transfer_engine.md R185). -/
def ignored (s : State) : Result := .next s

/-- The host transaction waits: it is not performed, so nothing changes (00_scope.md R9; log 7). -/
def held (s : State) : Result := .next s

end Machine
end Sys2Proof
end

