-- ==== Sys2Proof/Machine/Operands.lean ====
section
/-! DEFINITION. Operand assembly: the fields a write takes from D (30_encoding.md R92), the zero-extension of
a read's fields (R93), and the channels of a pixel word (00_scope.md R10). -/

namespace Sys2Proof.Machine

/-- CTRL.REVERSE = D[0]. -/
def fieldReverse (d : Word) : Bool := d.getLsbD 0

/-- CTRL.IRQ_EN = D[1]. -/
def fieldIrqEn (d : Word) : Bool := d.getLsbD 1

/-- STATUS.DONE = D[8]. -/
def fieldDone (d : Word) : Bool := d.getLsbD 8

/-- STATUS.ERR_RANGE = D[9]. -/
def fieldErrRange (d : Word) : Bool := d.getLsbD 9

/-- STATUS.ERR_CMD = D[10]. -/
def fieldErrCmd (d : Word) : Bool := d.getLsbD 10

/-- D[15:0], the field of LED_COUNT, PIX_INDEX and OV_COUNT. -/
def field16 (d : Word) : BitVec 16 := d.extractLsb' 0 16

/-- D[19:0], the field of FRAME_INDEX. -/
def field20 (d : Word) : BitVec 20 := d.extractLsb' 0 20

/-- D[23:0], the field of PIX_DATA, PIX_FILL and OV_COLOR. -/
def fieldRgb (d : Word) : Rgb := d.extractLsb' 0 24

/-- D[7:0], the field of ENC. -/
def fieldByte (d : Word) : Byte := d.extractLsb' 0 8

/-- D[31:0], the field of OV_DURATION. -/
def fieldWord (d : Word) : Word := d

/-- zext_32 (00_scope.md R7): every bit above the field reads 0 (30_encoding.md R93). -/
def zext {w : Nat} (v : BitVec w) : Word := v.setWidth 32

/-- chan(c, X) (00_scope.md R10). -/
def chan (c : Rgb) : Channel → Byte
  | .r => c.extractLsb' 16 8
  | .g => c.extractLsb' 8 8
  | .b => c.extractLsb' 0 8

/-- CHANNEL_ORDER[k] (00_scope.md R5). -/
def channelAt : ChannelOrder → Fin 3 → Channel
  | .rgb => ![.r, .g, .b]
  | .rbg => ![.r, .b, .g]
  | .grb => ![.g, .r, .b]
  | .gbr => ![.g, .b, .r]
  | .brg => ![.b, .r, .g]
  | .bgr => ![.b, .g, .r]

end Sys2Proof.Machine
end

