-- ==== Sys2Proof/Machine/Flags.lean ====
section
/-! DEFINITION. The flags: dirty, the two error conditions, the phase, and the STATUS word
(spec 00_scope.md R9; 10_state.md R24, R33; 44_transfer_engine.md R179). -/

namespace Sys2Proof.Machine

/-- raise ErrRange: one sticky flag and nothing else (00_scope.md R9). -/
def raiseErrRange (s : State) : State := { s with errRange := true }

/-- raise ErrCmd: one sticky flag and nothing else (00_scope.md R9). -/
def raiseErrCmd (s : State) : State := { s with errCmd := true }

/-- s.dirty <- 1 (10_state.md R24). -/
def markDirty (s : State) : State := { s with dirty := true }

/-- A sticky flag after a write to STATUS: writing 1 clears it, writing 0 leaves it (10_state.md R33). -/
def w1c (flag clear : Bool) : Bool := flag && !clear

/-- The phases of the timing state machine (44_transfer_engine.md R179). -/
inductive Phase where
  | idle | lead | payload | latch
  deriving DecidableEq, Repr

/-- STATUS.PHASE: 0 IDLE, 1 LEAD, 2 PAYLOAD, 3 LATCH (10_state.md R33). -/
def phaseCode : Phase → BitVec 2
  | .idle => 0
  | .lead => 1
  | .payload => 2
  | .latch => 3

/-- phase() (44_transfer_engine.md R179). -/
def phase (s : State) : Phase :=
  if s.txActive = false then .idle
  else if s.txByte.toNat < s.params.leadBytes.toNat then .lead
  else if s.txByte.toNat < s.params.leadBytes.toNat + 9 * s.txCount.toNat then .payload
  else .latch

/-- The word a STATUS read returns (41_config_status.md R123), bit 10 first. -/
def statusWord (s : State) : Word :=
  zext (BitVec.ofBool s.errCmd ++ BitVec.ofBool s.errRange ++ BitVec.ofBool s.done ++ 0#3 ++
    phaseCode (phase s) ++ BitVec.ofBool s.ovActive ++ BitVec.ofBool s.dirty ++
    BitVec.ofBool s.txActive)

end Sys2Proof.Machine
end

