-- ==== Sys2Proof/Syntax.lean ====
section
/-! DEFINITION. The transactions of the host port as syntax: one constructor per row of opcode_table.json
(30_encoding.md R98). A write carries the 32-bit value D of `WR <reg>, <value>` (R104), whose fields
Machine/Operands.lean takes out (R92); a read carries none, since D is ignored for a read (R90). A row of
several reserved addresses carries the address. -/

namespace Sys2Proof

/-- A host transaction, by its row of the opcode table. -/
inductive Instr where
  /-- RD_CAPS: read, A = 0x00 (R120). -/
  | rdCaps
  /-- WR_CAPS: write, A = 0x00; D = D[31:0] ignored (R128). -/
  | wrCaps (d : Word)
  /-- RD_CTRL: read, A = 0x01 (R122). -/
  | rdCtrl
  /-- WR_CTRL: write, A = 0x01; REVERSE = D[0], IRQ_EN = D[1] (R121). -/
  | wrCtrl (d : Word)
  /-- RD_STATUS: read, A = 0x02 (R123). -/
  | rdStatus
  /-- WR_STATUS: write, A = 0x02; CLR_DONE = D[8], CLR_ERR_RANGE = D[9], CLR_ERR_CMD = D[10] (R124). -/
  | wrStatus (d : Word)
  /-- RD_LED_COUNT: read, A = 0x03 (R126). -/
  | rdLedCount
  /-- WR_LED_COUNT: write, A = 0x03; COUNT = D[15:0] (R125). -/
  | wrLedCount (d : Word)
  /-- RD_CMD: read, A = 0x04 (R129). -/
  | rdCmd
  /-- NOP: write, A = 0x04; CODE = D[3:0]=0 (R185). -/
  | nop (d : Word)
  /-- TICK: write, A = 0x04; CODE = D[3:0]=1 (R170). -/
  | tick (d : Word)
  /-- RESET: write, A = 0x04; CODE = D[3:0]=2 (R187). -/
  | reset (d : Word)
  /-- SPLASH: write, A = 0x04; CODE = D[3:0]=3 (R159). -/
  | splash (d : Word)
  /-- CMD_RSV_4: write, A = 0x04; CODE = D[3:0]=4..7 (R186). -/
  | cmdRsv4 (d : Word)
  /-- CMD_RSV_8: write, A = 0x04; CODE = D[3:0]=8..15 (R186). -/
  | cmdRsv8 (d : Word)
  /-- RD_PIX_INDEX: read, A = 0x05 (R141). -/
  | rdPixIndex
  /-- WR_PIX_INDEX: write, A = 0x05; INDEX = D[15:0] (R140). -/
  | wrPixIndex (d : Word)
  /-- RD_PIX_DATA: read, A = 0x06 (R143). -/
  | rdPixData
  /-- WR_PIX_DATA: write, A = 0x06; R = D[23:16], G = D[15:8], B = D[7:0] (R142). -/
  | wrPixData (d : Word)
  /-- RD_PIX_FILL: read, A = 0x07 (R129). -/
  | rdPixFill
  /-- WR_PIX_FILL: write, A = 0x07; R = D[23:16], G = D[15:8], B = D[7:0] (R144). -/
  | wrPixFill (d : Word)
  /-- RD_OV_COLOR: read, A = 0x08 (R152). -/
  | rdOvColor
  /-- WR_OV_COLOR: write, A = 0x08; COLOR = D[23:0] (R151). -/
  | wrOvColor (d : Word)
  /-- RD_OV_COUNT: read, A = 0x09 (R154). -/
  | rdOvCount
  /-- WR_OV_COUNT: write, A = 0x09; COUNT = D[15:0] (R153). -/
  | wrOvCount (d : Word)
  /-- RD_OV_DURATION: read, A = 0x0A (R156). -/
  | rdOvDuration
  /-- WR_OV_DURATION: write, A = 0x0A; DURATION_US = D[31:0] (R155). -/
  | wrOvDuration (d : Word)
  /-- RD_NOW: read, A = 0x0B (R158). -/
  | rdNow
  /-- WR_NOW: write, A = 0x0B; D = D[31:0] ignored (R128). -/
  | wrNow (d : Word)
  /-- RD_FRAME_LEN: read, A = 0x0C (R181). -/
  | rdFrameLen
  /-- WR_FRAME_LEN: write, A = 0x0C; D = D[31:0] ignored (R128). -/
  | wrFrameLen (d : Word)
  /-- RD_FRAME_INDEX: read, A = 0x0D (R183). -/
  | rdFrameIndex
  /-- WR_FRAME_INDEX: write, A = 0x0D; INDEX = D[19:0] (R182). -/
  | wrFrameIndex (d : Word)
  /-- RD_FRAME_DATA: read, A = 0x0E (R184). -/
  | rdFrameData
  /-- WR_FRAME_DATA: write, A = 0x0E; D = D[31:0] ignored (R128). -/
  | wrFrameData (d : Word)
  /-- RD_ENC: read, A = 0x0F (R117). -/
  | rdEnc
  /-- WR_ENC: write, A = 0x0F; IN = D[7:0] (R116). -/
  | wrEnc (d : Word)
  /-- RD_OV_START: read, A = 0x10 (R157). -/
  | rdOvStart
  /-- WR_OV_START: write, A = 0x10; D = D[31:0] ignored (R128). -/
  | wrOvStart (d : Word)
  /-- RD_TX_POS: read, A = 0x11 (R188). -/
  | rdTxPos
  /-- WR_TX_POS: write, A = 0x11; D = D[31:0] ignored (R128). -/
  | wrTxPos (d : Word)
  /-- RD_RSV_12: read, A = 0x12-0x13 (R130). -/
  | rdRsv12 (a : BitVec 6)
  /-- WR_RSV_12: write, A = 0x12-0x13; D = D[31:0] ignored (R131). -/
  | wrRsv12 (a : BitVec 6) (d : Word)
  /-- RD_RSV_14: read, A = 0x14-0x17 (R130). -/
  | rdRsv14 (a : BitVec 6)
  /-- WR_RSV_14: write, A = 0x14-0x17; D = D[31:0] ignored (R131). -/
  | wrRsv14 (a : BitVec 6) (d : Word)
  /-- RD_RSV_18: read, A = 0x18-0x1F (R130). -/
  | rdRsv18 (a : BitVec 6)
  /-- WR_RSV_18: write, A = 0x18-0x1F; D = D[31:0] ignored (R131). -/
  | wrRsv18 (a : BitVec 6) (d : Word)
  /-- RD_RSV_20: read, A = 0x20-0x3F (R130). -/
  | rdRsv20 (a : BitVec 6)
  /-- WR_RSV_20: write, A = 0x20-0x3F; D = D[31:0] ignored (R131). -/
  | wrRsv20 (a : BitVec 6) (d : Word)
  deriving DecidableEq, Repr

end Sys2Proof
end

