-- ==== Sys2Proof/Machine/Control.lean ====
section
/-! DEFINITION. CAPS, CTRL, STATUS and LED_COUNT, and the held transactions (spec 41_config_status.md
R120-R126, 30_encoding.md R97). -/

namespace Sys2Proof.Machine

/-- RD_CAPS (41_config_status.md R120). -/
def execRdCaps (s : State) : Result :=
  answer (s.params.trailBytes ++ s.params.leadBytes ++ s.params.maxLeds) s

/-- WR_CTRL (41_config_status.md R121): dirty is set when REVERSE changes. -/
def execWrCtrl (d : Word) (s : State) : Result :=
  .next { s with
    reverse := fieldReverse d
    irqEn := fieldIrqEn d
    dirty := if fieldReverse d = s.reverse then s.dirty else true }

/-- RD_CTRL (41_config_status.md R122). -/
def execRdCtrl (s : State) : Result :=
  answer (zext (BitVec.ofBool s.irqEn ++ BitVec.ofBool s.reverse)) s

/-- RD_STATUS (41_config_status.md R123). -/
def execRdStatus (s : State) : Result := answer (statusWord s) s

/-- WR_STATUS (41_config_status.md R124). -/
def execWrStatus (d : Word) (s : State) : Result :=
  .next { s with
    done := w1c s.done (fieldDone d)
    errRange := w1c s.errRange (fieldErrRange d)
    errCmd := w1c s.errCmd (fieldErrCmd d) }

/-- n <= MAX_LEDS for the n of a write to LED_COUNT (41_config_status.md R125). -/
def ledCountLegal (d : Word) (s : State) : Bool := decide ((field16 d).toNat ≤ s.params.maxLeds.toNat)

/-- WR_LED_COUNT (41_config_status.md R125): refused at once above MAX_LEDS, else held while busy. -/
def execWrLedCount (d : Word) (s : State) : Result :=
  if ledCountLegal d s = false then .next (raiseErrRange s)
  else if s.txActive then held s
  else .next (markDirty { s with ledCount := field16 d })

/-- RD_LED_COUNT (41_config_status.md R126). -/
def execRdLedCount (s : State) : Result := answer (zext s.ledCount) s

/-- The transaction is held in this state: a legal LED_COUNT write or CMD RESET, while a transfer is in
flight; no other transaction waits for busy (30_encoding.md R97). -/
def waits (i : Instr) (s : State) : Bool :=
  match i with
  | .wrLedCount d => s.txActive && ledCountLegal d s
  | .reset _ => s.txActive
  | _ => false

end Sys2Proof.Machine
end

