-- ==== Sys2Proof/Machine/Encoder.lean ====
section
/-! DEFINITION. The Bit Encoder and the ENC register (spec 40_bit_encoder.md). -/

namespace Sys2Proof.Machine

/-- The symbol group {1, b, 0} of one data bit (40_bit_encoder.md R110). -/
def symbolGroup (bit : Bool) : BitVec 3 := 1#1 ++ BitVec.ofBool bit ++ 0#1

/-- enc: bit 7's group in the most significant position (40_bit_encoder.md R110). -/
def enc (b : Byte) : BitVec 24 :=
  symbolGroup (b.getLsbD 7) ++ symbolGroup (b.getLsbD 6) ++ symbolGroup (b.getLsbD 5) ++
    symbolGroup (b.getLsbD 4) ++ symbolGroup (b.getLsbD 3) ++ symbolGroup (b.getLsbD 2) ++
    symbolGroup (b.getLsbD 1) ++ symbolGroup (b.getLsbD 0)

/-- spread(b), the data cells alone (40_bit_encoder.md R111): the sum over i of b[i] << (3i + 1). -/
def spread (b : Byte) : BitVec 24 :=
  (List.range 8).foldl (fun acc i => acc + (if b.getLsbD i then 1#24 <<< (3 * i + 1) else 0#24)) 0#24

/-- valid(c): every group of three cells begins high and ends low (40_bit_encoder.md R113). -/
def symbolsValid (c : BitVec 24) : Bool :=
  (List.range 8).all fun i => c.getLsbD (3 * i + 2) && !c.getLsbD (3 * i)

/-- dec(c): the data cells, dec(c)[i] = c[3i + 1] (40_bit_encoder.md R113). -/
def dec (c : BitVec 24) : Byte :=
  BitVec.ofBool (c.getLsbD 22) ++ BitVec.ofBool (c.getLsbD 19) ++ BitVec.ofBool (c.getLsbD 16) ++
    BitVec.ofBool (c.getLsbD 13) ++ BitVec.ofBool (c.getLsbD 10) ++ BitVec.ofBool (c.getLsbD 7) ++
    BitVec.ofBool (c.getLsbD 4) ++ BitVec.ofBool (c.getLsbD 1)

/-- Byte m of a channel block, enc(v)[23 - 8m : 16 - 8m] (20_memory.md R63, 40_bit_encoder.md R112). -/
def blockByte (e : BitVec 24) (m : Fin 3) : Byte := e.extractLsb' (16 - 8 * m.val) 8

/-- ledblock(c), 72 cells, the first at bit 71 (40_bit_encoder.md R114). -/
def ledBlock (order : ChannelOrder) (c : Rgb) : BitVec 72 :=
  enc (chan c (channelAt order 0)) ++ enc (chan c (channelAt order 1)) ++
    enc (chan c (channelAt order 2))

/-- WR_ENC (40_bit_encoder.md R116). -/
def execWrEnc (d : Word) (s : State) : Result := .next { s with encIn := fieldByte d }

/-- RD_ENC (40_bit_encoder.md R117). -/
def execRdEnc (s : State) : Result := answer (zext (enc s.encIn)) s

end Sys2Proof.Machine
end

