-- ==== Sys2Proof/Machine/Overlay.lean ====
section
/-! DEFINITION. The overlay: expiry, color resolution, staging registers and SPLASH (spec 43_overlay.md). -/

namespace Sys2Proof.Machine

/-- elapsed = now -_32 s.ov_start (00_scope.md R10): wrapping subtraction. -/
def elapsed (now : Word) (s : State) : Word := now - s.ovStart

/-- expired(now) (43_overlay.md R160). -/
def expired (now : Word) (s : State) : Bool :=
  s.ovActive && decide (s.ovDur.toNat ≤ (elapsed now s).toNat)

/-- Tick step 1 (44_transfer_engine.md R171). -/
def expireOverlay (now : Word) (s : State) : State :=
  if expired now s then { s with ovActive := false, dirty := true } else s

/-- resolve(i), the color of logical index i (43_overlay.md R161). -/
def resolve (s : State) (i : Nat) : Rgb :=
  if s.ovActive then (if i < s.ovCount.toNat then s.ovColor else 0) else pixRead s i

/-- WR_OV_COLOR (R151). -/
def execWrOvColor (d : Word) (s : State) : Result := .next { s with ovColorStg := fieldRgb d }

/-- RD_OV_COLOR (R152). -/
def execRdOvColor (s : State) : Result := answer (zext s.ovColorStg) s

/-- WR_OV_COUNT (R153). -/
def execWrOvCount (d : Word) (s : State) : Result := .next { s with ovCountStg := field16 d }

/-- RD_OV_COUNT (R154). -/
def execRdOvCount (s : State) : Result := answer (zext s.ovCountStg) s

/-- WR_OV_DURATION (R155). -/
def execWrOvDuration (d : Word) (s : State) : Result := .next { s with ovDurStg := fieldWord d }

/-- RD_OV_DURATION (R156). -/
def execRdOvDuration (s : State) : Result := answer s.ovDurStg s

/-- RD_OV_START (R157). -/
def execRdOvStart (s : State) : Result := answer s.ovStart s

/-- RD_NOW (R158). -/
def execRdNow (s : State) : Result := answer s.nowUs s

/-- SPLASH (R159): any value of D[31:4] (30_encoding.md R94). -/
def execSplash (_d : Word) (s : State) : Result :=
  .next { s with
    ovColor := s.ovColorStg
    ovCount := s.ovCountStg
    ovDur := s.ovDurStg
    ovStart := s.nowUs
    ovActive := true
    dirty := true }

end Sys2Proof.Machine
end

