-- ==== Sys2Proof/Machine/PixelStore.lean ====
section
/-! DEFINITION. The pixel store operations (spec 42_pixel_store.md R140-R144). -/

namespace Sys2Proof.Machine

/-- WR_PIX_INDEX (R140). -/
def execWrPixIndex (d : Word) (s : State) : Result := .next { s with pixIndex := field16 d }

/-- RD_PIX_INDEX (R141). -/
def execRdPixIndex (s : State) : Result := answer (zext s.pixIndex) s

/-- PIX_INDEX names an LED of the logical strip (R142, R143). -/
def pixIndexInRange (s : State) : Bool := decide (s.pixIndex.toNat < s.ledCount.toNat)

/-- WR_PIX_DATA (R142). -/
def execWrPixData (d : Word) (s : State) : Result :=
  if pixIndexInRange s then .next (markDirty (pixWrite s.pixIndex.toNat (fieldRgb d) s))
  else .next (raiseErrRange s)

/-- RD_PIX_DATA (R143). -/
def execRdPixData (s : State) : Result :=
  answer (if pixIndexInRange s then zext (pixRead s s.pixIndex.toNat) else 0) s

/-- WR_PIX_FILL (R144): every entry below LED_COUNT. -/
def execWrPixFill (d : Word) (s : State) : Result :=
  .next (markDirty { s with pix := Memory.fillBelow s.ledCount.toNat (fieldRgb d) s.pix })

end Sys2Proof.Machine
end

