-- ==== Sys2Proof/Machine/Reserved.lean ====
section
/-! DEFINITION. Writes to read-only registers, reads of write-only registers, and reserved addresses (spec
41_config_status.md R128-R131, 30_encoding.md R95). -/

namespace Sys2Proof.Machine

/-- WR_CAPS: a write to a read-only register (R128). -/
def execWrCaps (_d : Word) (s : State) : Result := ignored s

/-- WR_NOW (R128). -/
def execWrNow (_d : Word) (s : State) : Result := ignored s

/-- WR_FRAME_LEN (R128). -/
def execWrFrameLen (_d : Word) (s : State) : Result := ignored s

/-- WR_FRAME_DATA (R128). -/
def execWrFrameData (_d : Word) (s : State) : Result := ignored s

/-- WR_OV_START (R128). -/
def execWrOvStart (_d : Word) (s : State) : Result := ignored s

/-- WR_TX_POS (R128). -/
def execWrTxPos (_d : Word) (s : State) : Result := ignored s

/-- RD_CMD: a read of a write-only register (R129). -/
def execRdCmd (s : State) : Result := answer 0 s

/-- RD_PIX_FILL (R129). -/
def execRdPixFill (s : State) : Result := answer 0 s

/-- RD_RSV_12: a read of a reserved address (R130). -/
def execRdRsv12 (_a : BitVec 6) (s : State) : Result := answer 0 s

/-- RD_RSV_14 (R130). -/
def execRdRsv14 (_a : BitVec 6) (s : State) : Result := answer 0 s

/-- RD_RSV_18 (R130). -/
def execRdRsv18 (_a : BitVec 6) (s : State) : Result := answer 0 s

/-- RD_RSV_20 (R130). -/
def execRdRsv20 (_a : BitVec 6) (s : State) : Result := answer 0 s

/-- WR_RSV_12: a write to a reserved address (R131). -/
def execWrRsv12 (_a : BitVec 6) (_d : Word) (s : State) : Result := ignored s

/-- WR_RSV_14 (R131). -/
def execWrRsv14 (_a : BitVec 6) (_d : Word) (s : State) : Result := ignored s

/-- WR_RSV_18 (R131). -/
def execWrRsv18 (_a : BitVec 6) (_d : Word) (s : State) : Result := ignored s

/-- WR_RSV_20 (R131). -/
def execWrRsv20 (_a : BitVec 6) (_d : Word) (s : State) : Result := ignored s

end Sys2Proof.Machine
end

