-- ==== Sys2Proof/Machine/Transfer.lean ====
section
/-! DEFINITION. The transfer engine: render, issue, TICK, the other commands, and the read-back of frame and
shifter (spec 44_transfer_engine.md R170-R177, R181-R188). -/

namespace Sys2Proof.Machine

/-- slot(i) for N = s.led_count (44_transfer_engine.md R175). -/
def slot (s : State) (i : Nat) : Nat := if s.reverse then s.ledCount.toNat - 1 - i else i

/-- The first byte of channel position k of the LED block of a slot (20_memory.md R63). -/
def blockBase (p : Params) (sl : Nat) (k : Fin 3) : Nat := p.leadBytes.toNat + 9 * sl + 3 * k.val

/-- The three bytes of a channel block, from the byte `base` on (44_transfer_engine.md R176). -/
def writeBlock (base : Nat) (e : BitVec 24) (m : Memory 8) : Memory 8 :=
  [0, 1, 2].foldl (fun m (n : Fin 3) => Memory.write m (base + n.val) (blockByte e n)) m

/-- The LED block of logical index i, a channel block for each channel position (44_transfer_engine.md R176). -/
def renderLed (s : State) (m : Memory 8) (i : Nat) : Memory 8 :=
  [0, 1, 2].foldl (fun m (k : Fin 3) =>
    writeBlock (blockBase s.params (slot s i) k)
      (enc (chan (resolve s i) (channelAt s.params.channelOrder k))) m) m

/-- The frame buffer the render writes: 0 everywhere, then the LED blocks (44_transfer_engine.md R176). -/
def renderedFrame (s : State) : Memory 8 :=
  (List.range s.ledCount.toNat).foldl (renderLed s) (Memory.clearBelow (frameCap s.params) s.frame)

/-- render() (44_transfer_engine.md R176): it writes only the frame buffer. -/
def render (s : State) : State := { s with frame := renderedFrame s }

/-- issue() (44_transfer_engine.md R177). -/
def issue (s : State) : State :=
  if 0 < frameLen s.params s.ledCount.toNat then
    { s with
      dirty := false
      txActive := true
      txLen := BitVec.ofNat 20 (frameLen s.params s.ledCount.toNat)
      txCount := s.ledCount
      txByte := 0
      txBit := 7 }
  else { s with dirty := false, done := true }

/-- Tick steps 3 to 5: the gate (44_transfer_engine.md R173), then render and issue in the same step. -/
def renderIfDue (s : State) : State :=
  if s.dirty = false then s
  else if s.txActive then s
  else issue (render s)

/-- TICK (44_transfer_engine.md R170): one sample of NOW_US, one atomic step. Step 2 is empty (R172). -/
def execTick (_d : Word) (s : State) : Result := .next (renderIfDue (expireOverlay s.nowUs s))

/-- NOP (R185). -/
def execNop (_d : Word) (s : State) : Result := ignored s

/-- CMD_RSV_4, codes 4 to 7 (R186). -/
def execCmdRsv4 (_d : Word) (s : State) : Result := .next (raiseErrCmd s)

/-- CMD_RSV_8, codes 8 to 15 (R186). -/
def execCmdRsv8 (_d : Word) (s : State) : Result := .next (raiseErrCmd s)

/-- RESET (R187): held while busy; then the pixel store and the overlay are zeroed and dirty is set. -/
def execReset (_d : Word) (s : State) : Result :=
  if s.txActive then held s
  else .next { s with
    pix := Memory.clearBelow s.params.maxLeds.toNat s.pix
    ovActive := false
    ovColor := 0
    ovCount := 0
    ovDur := 0
    ovStart := 0
    ovColorStg := 0
    ovCountStg := 0
    ovDurStg := 0
    dirty := true }

/-- RD_FRAME_LEN (R181). -/
def execRdFrameLen (s : State) : Result :=
  answer (zext (BitVec.ofNat 20 (frameLen s.params s.ledCount.toNat))) s

/-- WR_FRAME_INDEX (R182). -/
def execWrFrameIndex (d : Word) (s : State) : Result := .next { s with frameIndex := field20 d }

/-- RD_FRAME_INDEX (R183). -/
def execRdFrameIndex (s : State) : Result := answer (zext s.frameIndex) s

/-- RD_FRAME_DATA (R184). -/
def execRdFrameData (s : State) : Result :=
  answer (if s.frameIndex.toNat < frameCap s.params then zext (frameRead s s.frameIndex.toNat) else 0) s

/-- RD_TX_POS (R188): BIT at bits 26:24, BYTE at bits 19:0, 0 while idle. -/
def execRdTxPos (s : State) : Result :=
  answer (if s.txActive then 0#5 ++ s.txBit ++ 0#4 ++ s.txByte else 0) s

end Sys2Proof.Machine
end

