-- ==== Sys2Proof/Machine/Dispatch.lean ====
section
/-! DEFINITION. One arm per transaction of opcode_table.json: its meaning, in the file of its family. -/

namespace Sys2Proof.Machine

/-- The meaning of a transaction that the port performs in this state. -/
def exec (i : Instr) (s : State) : Host.Outcome State Fault Refusal :=
  match i with
  | .rdCaps => Sys2Proof.Machine.execRdCaps s
  | .wrCaps d => Sys2Proof.Machine.execWrCaps d s
  | .rdCtrl => Sys2Proof.Machine.execRdCtrl s
  | .wrCtrl d => Sys2Proof.Machine.execWrCtrl d s
  | .rdStatus => Sys2Proof.Machine.execRdStatus s
  | .wrStatus d => Sys2Proof.Machine.execWrStatus d s
  | .rdLedCount => Sys2Proof.Machine.execRdLedCount s
  | .wrLedCount d => Sys2Proof.Machine.execWrLedCount d s
  | .rdCmd => Sys2Proof.Machine.execRdCmd s
  | .nop d => Sys2Proof.Machine.execNop d s
  | .tick d => Sys2Proof.Machine.execTick d s
  | .reset d => Sys2Proof.Machine.execReset d s
  | .splash d => Sys2Proof.Machine.execSplash d s
  | .cmdRsv4 d => Sys2Proof.Machine.execCmdRsv4 d s
  | .cmdRsv8 d => Sys2Proof.Machine.execCmdRsv8 d s
  | .rdPixIndex => Sys2Proof.Machine.execRdPixIndex s
  | .wrPixIndex d => Sys2Proof.Machine.execWrPixIndex d s
  | .rdPixData => Sys2Proof.Machine.execRdPixData s
  | .wrPixData d => Sys2Proof.Machine.execWrPixData d s
  | .rdPixFill => Sys2Proof.Machine.execRdPixFill s
  | .wrPixFill d => Sys2Proof.Machine.execWrPixFill d s
  | .rdOvColor => Sys2Proof.Machine.execRdOvColor s
  | .wrOvColor d => Sys2Proof.Machine.execWrOvColor d s
  | .rdOvCount => Sys2Proof.Machine.execRdOvCount s
  | .wrOvCount d => Sys2Proof.Machine.execWrOvCount d s
  | .rdOvDuration => Sys2Proof.Machine.execRdOvDuration s
  | .wrOvDuration d => Sys2Proof.Machine.execWrOvDuration d s
  | .rdNow => Sys2Proof.Machine.execRdNow s
  | .wrNow d => Sys2Proof.Machine.execWrNow d s
  | .rdFrameLen => Sys2Proof.Machine.execRdFrameLen s
  | .wrFrameLen d => Sys2Proof.Machine.execWrFrameLen d s
  | .rdFrameIndex => Sys2Proof.Machine.execRdFrameIndex s
  | .wrFrameIndex d => Sys2Proof.Machine.execWrFrameIndex d s
  | .rdFrameData => Sys2Proof.Machine.execRdFrameData s
  | .wrFrameData d => Sys2Proof.Machine.execWrFrameData d s
  | .rdEnc => Sys2Proof.Machine.execRdEnc s
  | .wrEnc d => Sys2Proof.Machine.execWrEnc d s
  | .rdOvStart => Sys2Proof.Machine.execRdOvStart s
  | .wrOvStart d => Sys2Proof.Machine.execWrOvStart d s
  | .rdTxPos => Sys2Proof.Machine.execRdTxPos s
  | .wrTxPos d => Sys2Proof.Machine.execWrTxPos d s
  | .rdRsv12 a => Sys2Proof.Machine.execRdRsv12 a s
  | .wrRsv12 a d => Sys2Proof.Machine.execWrRsv12 a d s
  | .rdRsv14 a => Sys2Proof.Machine.execRdRsv14 a s
  | .wrRsv14 a d => Sys2Proof.Machine.execWrRsv14 a d s
  | .rdRsv18 a => Sys2Proof.Machine.execRdRsv18 a s
  | .wrRsv18 a d => Sys2Proof.Machine.execWrRsv18 a d s
  | .rdRsv20 a => Sys2Proof.Machine.execRdRsv20 a s
  | .wrRsv20 a d => Sys2Proof.Machine.execWrRsv20 a d s

end Sys2Proof.Machine
end

