-- ==== Sys2Proof/WellFormed.lean ====
section
/-! DEFINITION. Well-formed transactions: a CMD row carries a value with its own CODE (30_encoding.md R94),
a reserved row an address of its own range (R98). Every other operand is legal at every value. -/

namespace Sys2Proof

/-- CODE = D[3:0] of a write to CMD (30_encoding.md R94). -/
abbrev cmdCode (d : Word) : BitVec 4 := d.extractLsb' 0 4

/-- The address lies in an inclusive range. -/
abbrev inRange (a lo hi : BitVec 6) : Bool := decide (lo ≤ a) && decide (a ≤ hi)

/-- The operands are ones the row encodes (30_encoding.md R94, R98). -/
def Instr.wf : Instr → Bool
  | .rdCaps => true
  | .wrCaps _ => true
  | .rdCtrl => true
  | .wrCtrl _ => true
  | .rdStatus => true
  | .wrStatus _ => true
  | .rdLedCount => true
  | .wrLedCount _ => true
  | .rdCmd => true
  | .nop d => cmdCode d == 0#4
  | .tick d => cmdCode d == 1#4
  | .reset d => cmdCode d == 2#4
  | .splash d => cmdCode d == 3#4
  | .cmdRsv4 d => (cmdCode d).extractLsb' 2 2 == 0b01#2
  | .cmdRsv8 d => (cmdCode d).getLsbD 3
  | .rdPixIndex => true
  | .wrPixIndex _ => true
  | .rdPixData => true
  | .wrPixData _ => true
  | .rdPixFill => true
  | .wrPixFill _ => true
  | .rdOvColor => true
  | .wrOvColor _ => true
  | .rdOvCount => true
  | .wrOvCount _ => true
  | .rdOvDuration => true
  | .wrOvDuration _ => true
  | .rdNow => true
  | .wrNow _ => true
  | .rdFrameLen => true
  | .wrFrameLen _ => true
  | .rdFrameIndex => true
  | .wrFrameIndex _ => true
  | .rdFrameData => true
  | .wrFrameData _ => true
  | .rdEnc => true
  | .wrEnc _ => true
  | .rdOvStart => true
  | .wrOvStart _ => true
  | .rdTxPos => true
  | .wrTxPos _ => true
  | .rdRsv12 a => inRange a 0x12 0x13
  | .wrRsv12 a _ => inRange a 0x12 0x13
  | .rdRsv14 a => inRange a 0x14 0x17
  | .wrRsv14 a _ => inRange a 0x14 0x17
  | .rdRsv18 a => inRange a 0x18 0x1f
  | .wrRsv18 a _ => inRange a 0x18 0x1f
  | .rdRsv20 a => inRange a 0x20 0x3f
  | .wrRsv20 a _ => inRange a 0x20 0x3f

end Sys2Proof
end

