-- ==== Sys2Proof/Decode.lean ====
section
/-! DEFINITION. The register addresses, the decoder (total on every 39-bit word, 30_encoding.md R91), the
encoder (R98, R104), and the opcode table as data (R98). A transaction is one parallel 39-bit word of the
port (R90), so the byte-wise form of a word is a number below 2^39; any other number is rejected by name
(log 14). -/

namespace Sys2Proof

/-- The named registers of the map (10_state.md R30). -/
inductive Reg where
  | caps
  | ctrl
  | status
  | ledCount
  | cmd
  | pixIndex
  | pixData
  | pixFill
  | ovColor
  | ovCount
  | ovDuration
  | now
  | frameLen
  | frameIndex
  | frameData
  | enc
  | ovStart
  | txPos
  deriving DecidableEq, Repr

/-- A(r), the word address of a register (10_state.md R30). -/
def Reg.addr : Reg → BitVec 6
  | .caps => 0x00#6
  | .ctrl => 0x01#6
  | .status => 0x02#6
  | .ledCount => 0x03#6
  | .cmd => 0x04#6
  | .pixIndex => 0x05#6
  | .pixData => 0x06#6
  | .pixFill => 0x07#6
  | .ovColor => 0x08#6
  | .ovCount => 0x09#6
  | .ovDuration => 0x0a#6
  | .now => 0x0b#6
  | .frameLen => 0x0c#6
  | .frameIndex => 0x0d#6
  | .frameData => 0x0e#6
  | .enc => 0x0f#6
  | .ovStart => 0x10#6
  | .txPos => 0x11#6

/-- `RD r` is `T = A(r) << 32` (30_encoding.md R104): WE = 0 and D = 0. -/
def rdTxn (a : BitVec 6) : Txn := 0#1 ++ a ++ 0#32

/-- `WR r, v` is `T = 0x4000000000 | A(r) << 32 | v` (30_encoding.md R104). -/
def wrTxn (a : BitVec 6) (v : Word) : Txn := 1#1 ++ a ++ v

/-- WE = T[38] (30_encoding.md R90). -/
def txnWe (t : Txn) : Bool := t.getLsbD 38

/-- A = T[37:32] (30_encoding.md R90). -/
def txnAddr (t : Txn) : BitVec 6 := t.extractLsb' 32 6

/-- D = T[31:0] (30_encoding.md R90). -/
def txnData (t : Txn) : Word := t.extractLsb' 0 32

/-- A write to CMD selects by CODE = D[3:0] (30_encoding.md R94). -/
def decodeCmd (d : Word) : Instr :=
  match cmdCode d with
  | 0#4 => .nop d
  | 1#4 => .tick d
  | 2#4 => .reset d
  | 3#4 => .splash d
  | code => if code.getLsbD 3 then .cmdRsv8 d else .cmdRsv4 d

/-- The read row of an address (30_encoding.md R98). -/
def decodeRead (a : BitVec 6) : Instr :=
  match a with
  | 0x00#6 => .rdCaps
  | 0x01#6 => .rdCtrl
  | 0x02#6 => .rdStatus
  | 0x03#6 => .rdLedCount
  | 0x04#6 => .rdCmd
  | 0x05#6 => .rdPixIndex
  | 0x06#6 => .rdPixData
  | 0x07#6 => .rdPixFill
  | 0x08#6 => .rdOvColor
  | 0x09#6 => .rdOvCount
  | 0x0a#6 => .rdOvDuration
  | 0x0b#6 => .rdNow
  | 0x0c#6 => .rdFrameLen
  | 0x0d#6 => .rdFrameIndex
  | 0x0e#6 => .rdFrameData
  | 0x0f#6 => .rdEnc
  | 0x10#6 => .rdOvStart
  | 0x11#6 => .rdTxPos
  | _ =>
    if a ≤ 0x13#6 then .rdRsv12 a
    else if a ≤ 0x17#6 then .rdRsv14 a
    else if a ≤ 0x1f#6 then .rdRsv18 a
    else .rdRsv20 a

/-- The write row of an address (30_encoding.md R98). -/
def decodeWrite (a : BitVec 6) (d : Word) : Instr :=
  match a with
  | 0x00#6 => .wrCaps d
  | 0x01#6 => .wrCtrl d
  | 0x02#6 => .wrStatus d
  | 0x03#6 => .wrLedCount d
  | 0x04#6 => decodeCmd d
  | 0x05#6 => .wrPixIndex d
  | 0x06#6 => .wrPixData d
  | 0x07#6 => .wrPixFill d
  | 0x08#6 => .wrOvColor d
  | 0x09#6 => .wrOvCount d
  | 0x0a#6 => .wrOvDuration d
  | 0x0b#6 => .wrNow d
  | 0x0c#6 => .wrFrameLen d
  | 0x0d#6 => .wrFrameIndex d
  | 0x0e#6 => .wrFrameData d
  | 0x0f#6 => .wrEnc d
  | 0x10#6 => .wrOvStart d
  | 0x11#6 => .wrTxPos d
  | _ =>
    if a ≤ 0x13#6 then .wrRsv12 a d
    else if a ≤ 0x17#6 then .wrRsv14 a d
    else if a ≤ 0x1f#6 then .wrRsv18 a d
    else .wrRsv20 a d

/-- The decoder: total on every 39-bit word, by WE and A alone but for CMD (30_encoding.md R91). -/
def decode (t : Txn) : Instr :=
  if txnWe t then decodeWrite (txnAddr t) (txnData t) else decodeRead (txnAddr t)

/-- Why a number is no transaction. -/
inductive DecodeReject where
  /-- The number has a bit above T[38]: no 39-bit word (30_encoding.md R90). Safe: nothing runs. -/
  | widerThanTransaction
  deriving DecidableEq, Repr

/-- The decoder on any number: a number of at most 39 bits is a word, any other is rejected by name. -/
def decodeNat (w : Nat) : Except DecodeReject Instr :=
  if w < 2 ^ 39 then .ok (decode (BitVec.ofNat 39 w)) else .error .widerThanTransaction

/-- The host's entry to the decoder. Every transaction has the one length (30_encoding.md R96), and the
bits above `nbits` are 0 in `w`, so the word is `w` itself. -/
def decodeTableWord (_nbits w : Nat) : Option Instr :=
  match decodeNat w with
  | .ok i => some i
  | .error _ => none

/-- The word of a transaction (30_encoding.md R98, R104). -/
def encode : Instr → Txn
  | .rdCaps => rdTxn Reg.caps.addr
  | .wrCaps d => wrTxn Reg.caps.addr d
  | .rdCtrl => rdTxn Reg.ctrl.addr
  | .wrCtrl d => wrTxn Reg.ctrl.addr d
  | .rdStatus => rdTxn Reg.status.addr
  | .wrStatus d => wrTxn Reg.status.addr d
  | .rdLedCount => rdTxn Reg.ledCount.addr
  | .wrLedCount d => wrTxn Reg.ledCount.addr d
  | .rdCmd => rdTxn Reg.cmd.addr
  | .nop d => wrTxn Reg.cmd.addr d
  | .tick d => wrTxn Reg.cmd.addr d
  | .reset d => wrTxn Reg.cmd.addr d
  | .splash d => wrTxn Reg.cmd.addr d
  | .cmdRsv4 d => wrTxn Reg.cmd.addr d
  | .cmdRsv8 d => wrTxn Reg.cmd.addr d
  | .rdPixIndex => rdTxn Reg.pixIndex.addr
  | .wrPixIndex d => wrTxn Reg.pixIndex.addr d
  | .rdPixData => rdTxn Reg.pixData.addr
  | .wrPixData d => wrTxn Reg.pixData.addr d
  | .rdPixFill => rdTxn Reg.pixFill.addr
  | .wrPixFill d => wrTxn Reg.pixFill.addr d
  | .rdOvColor => rdTxn Reg.ovColor.addr
  | .wrOvColor d => wrTxn Reg.ovColor.addr d
  | .rdOvCount => rdTxn Reg.ovCount.addr
  | .wrOvCount d => wrTxn Reg.ovCount.addr d
  | .rdOvDuration => rdTxn Reg.ovDuration.addr
  | .wrOvDuration d => wrTxn Reg.ovDuration.addr d
  | .rdNow => rdTxn Reg.now.addr
  | .wrNow d => wrTxn Reg.now.addr d
  | .rdFrameLen => rdTxn Reg.frameLen.addr
  | .wrFrameLen d => wrTxn Reg.frameLen.addr d
  | .rdFrameIndex => rdTxn Reg.frameIndex.addr
  | .wrFrameIndex d => wrTxn Reg.frameIndex.addr d
  | .rdFrameData => rdTxn Reg.frameData.addr
  | .wrFrameData d => wrTxn Reg.frameData.addr d
  | .rdEnc => rdTxn Reg.enc.addr
  | .wrEnc d => wrTxn Reg.enc.addr d
  | .rdOvStart => rdTxn Reg.ovStart.addr
  | .wrOvStart d => wrTxn Reg.ovStart.addr d
  | .rdTxPos => rdTxn Reg.txPos.addr
  | .wrTxPos d => wrTxn Reg.txPos.addr d
  | .rdRsv12 a => rdTxn a
  | .wrRsv12 a d => wrTxn a d
  | .rdRsv14 a => rdTxn a
  | .wrRsv14 a d => wrTxn a d
  | .rdRsv18 a => rdTxn a
  | .wrRsv18 a d => wrTxn a d
  | .rdRsv20 a => rdTxn a
  | .wrRsv20 a d => wrTxn a d

/-- The mnemonic of an instruction's row in opcode_table.json. -/
def Instr.mnemonic : Instr → String
  | .rdCaps => "RD_CAPS"
  | .wrCaps _ => "WR_CAPS"
  | .rdCtrl => "RD_CTRL"
  | .wrCtrl _ => "WR_CTRL"
  | .rdStatus => "RD_STATUS"
  | .wrStatus _ => "WR_STATUS"
  | .rdLedCount => "RD_LED_COUNT"
  | .wrLedCount _ => "WR_LED_COUNT"
  | .rdCmd => "RD_CMD"
  | .nop _ => "NOP"
  | .tick _ => "TICK"
  | .reset _ => "RESET"
  | .splash _ => "SPLASH"
  | .cmdRsv4 _ => "CMD_RSV_4"
  | .cmdRsv8 _ => "CMD_RSV_8"
  | .rdPixIndex => "RD_PIX_INDEX"
  | .wrPixIndex _ => "WR_PIX_INDEX"
  | .rdPixData => "RD_PIX_DATA"
  | .wrPixData _ => "WR_PIX_DATA"
  | .rdPixFill => "RD_PIX_FILL"
  | .wrPixFill _ => "WR_PIX_FILL"
  | .rdOvColor => "RD_OV_COLOR"
  | .wrOvColor _ => "WR_OV_COLOR"
  | .rdOvCount => "RD_OV_COUNT"
  | .wrOvCount _ => "WR_OV_COUNT"
  | .rdOvDuration => "RD_OV_DURATION"
  | .wrOvDuration _ => "WR_OV_DURATION"
  | .rdNow => "RD_NOW"
  | .wrNow _ => "WR_NOW"
  | .rdFrameLen => "RD_FRAME_LEN"
  | .wrFrameLen _ => "WR_FRAME_LEN"
  | .rdFrameIndex => "RD_FRAME_INDEX"
  | .wrFrameIndex _ => "WR_FRAME_INDEX"
  | .rdFrameData => "RD_FRAME_DATA"
  | .wrFrameData _ => "WR_FRAME_DATA"
  | .rdEnc => "RD_ENC"
  | .wrEnc _ => "WR_ENC"
  | .rdOvStart => "RD_OV_START"
  | .wrOvStart _ => "WR_OV_START"
  | .rdTxPos => "RD_TX_POS"
  | .wrTxPos _ => "WR_TX_POS"
  | .rdRsv12 _ => "RD_RSV_12"
  | .wrRsv12 _ _ => "WR_RSV_12"
  | .rdRsv14 _ => "RD_RSV_14"
  | .wrRsv14 _ _ => "WR_RSV_14"
  | .rdRsv18 _ => "RD_RSV_18"
  | .wrRsv18 _ _ => "WR_RSV_18"
  | .rdRsv20 _ => "RD_RSV_20"
  | .wrRsv20 _ _ => "WR_RSV_20"

/-- A row of opcode_table.json: a word T belongs to it when `T AND mask = pattern` (30_encoding.md R98). -/
structure TableRow where
  mnemonic : String
  mask : Txn
  pattern : Txn
  deriving DecidableEq, Repr

/-- The word belongs to the row. -/
def TableRow.covers (r : TableRow) (t : Txn) : Bool := t &&& r.mask == r.pattern

def tableConfig : List TableRow :=
  [ ⟨"RD_CAPS", 0x7F00000000#39, 0x0000000000#39⟩,
    ⟨"WR_CAPS", 0x7F00000000#39, 0x4000000000#39⟩,
    ⟨"RD_CTRL", 0x7F00000000#39, 0x0100000000#39⟩,
    ⟨"WR_CTRL", 0x7F00000000#39, 0x4100000000#39⟩,
    ⟨"RD_STATUS", 0x7F00000000#39, 0x0200000000#39⟩,
    ⟨"WR_STATUS", 0x7F00000000#39, 0x4200000000#39⟩,
    ⟨"RD_LED_COUNT", 0x7F00000000#39, 0x0300000000#39⟩,
    ⟨"WR_LED_COUNT", 0x7F00000000#39, 0x4300000000#39⟩ ]

def tableCmd : List TableRow :=
  [ ⟨"RD_CMD", 0x7F00000000#39, 0x0400000000#39⟩,
    ⟨"NOP", 0x7F0000000F#39, 0x4400000000#39⟩,
    ⟨"TICK", 0x7F0000000F#39, 0x4400000001#39⟩,
    ⟨"RESET", 0x7F0000000F#39, 0x4400000002#39⟩,
    ⟨"SPLASH", 0x7F0000000F#39, 0x4400000003#39⟩,
    ⟨"CMD_RSV_4", 0x7F0000000C#39, 0x4400000004#39⟩,
    ⟨"CMD_RSV_8", 0x7F00000008#39, 0x4400000008#39⟩ ]

def tablePixel : List TableRow :=
  [ ⟨"RD_PIX_INDEX", 0x7F00000000#39, 0x0500000000#39⟩,
    ⟨"WR_PIX_INDEX", 0x7F00000000#39, 0x4500000000#39⟩,
    ⟨"RD_PIX_DATA", 0x7F00000000#39, 0x0600000000#39⟩,
    ⟨"WR_PIX_DATA", 0x7F00000000#39, 0x4600000000#39⟩,
    ⟨"RD_PIX_FILL", 0x7F00000000#39, 0x0700000000#39⟩,
    ⟨"WR_PIX_FILL", 0x7F00000000#39, 0x4700000000#39⟩ ]

def tableOverlay : List TableRow :=
  [ ⟨"RD_OV_COLOR", 0x7F00000000#39, 0x0800000000#39⟩,
    ⟨"WR_OV_COLOR", 0x7F00000000#39, 0x4800000000#39⟩,
    ⟨"RD_OV_COUNT", 0x7F00000000#39, 0x0900000000#39⟩,
    ⟨"WR_OV_COUNT", 0x7F00000000#39, 0x4900000000#39⟩,
    ⟨"RD_OV_DURATION", 0x7F00000000#39, 0x0A00000000#39⟩,
    ⟨"WR_OV_DURATION", 0x7F00000000#39, 0x4A00000000#39⟩,
    ⟨"RD_NOW", 0x7F00000000#39, 0x0B00000000#39⟩,
    ⟨"WR_NOW", 0x7F00000000#39, 0x4B00000000#39⟩ ]

def tableFrame : List TableRow :=
  [ ⟨"RD_FRAME_LEN", 0x7F00000000#39, 0x0C00000000#39⟩,
    ⟨"WR_FRAME_LEN", 0x7F00000000#39, 0x4C00000000#39⟩,
    ⟨"RD_FRAME_INDEX", 0x7F00000000#39, 0x0D00000000#39⟩,
    ⟨"WR_FRAME_INDEX", 0x7F00000000#39, 0x4D00000000#39⟩,
    ⟨"RD_FRAME_DATA", 0x7F00000000#39, 0x0E00000000#39⟩,
    ⟨"WR_FRAME_DATA", 0x7F00000000#39, 0x4E00000000#39⟩ ]

def tableMisc : List TableRow :=
  [ ⟨"RD_ENC", 0x7F00000000#39, 0x0F00000000#39⟩,
    ⟨"WR_ENC", 0x7F00000000#39, 0x4F00000000#39⟩,
    ⟨"RD_OV_START", 0x7F00000000#39, 0x1000000000#39⟩,
    ⟨"WR_OV_START", 0x7F00000000#39, 0x5000000000#39⟩,
    ⟨"RD_TX_POS", 0x7F00000000#39, 0x1100000000#39⟩,
    ⟨"WR_TX_POS", 0x7F00000000#39, 0x5100000000#39⟩ ]

def tableReserved : List TableRow :=
  [ ⟨"RD_RSV_12", 0x7E00000000#39, 0x1200000000#39⟩,
    ⟨"WR_RSV_12", 0x7E00000000#39, 0x5200000000#39⟩,
    ⟨"RD_RSV_14", 0x7C00000000#39, 0x1400000000#39⟩,
    ⟨"WR_RSV_14", 0x7C00000000#39, 0x5400000000#39⟩,
    ⟨"RD_RSV_18", 0x7800000000#39, 0x1800000000#39⟩,
    ⟨"WR_RSV_18", 0x7800000000#39, 0x5800000000#39⟩,
    ⟨"RD_RSV_20", 0x6000000000#39, 0x2000000000#39⟩,
    ⟨"WR_RSV_20", 0x6000000000#39, 0x6000000000#39⟩ ]

/-- opcode_table.json, row by row in its order. -/
def opcodeTable : List TableRow :=
  tableConfig ++ tableCmd ++ tablePixel ++ tableOverlay ++ tableFrame ++ tableMisc ++ tableReserved

end Sys2Proof
end

