-- ==== Sys2Proof/Machine/Shifter.lean ====
section
/-! DEFINITION. The serial shifter (spec 44_transfer_engine.md R178, R180; 10_state.md R27). -/

namespace Sys2Proof.Machine

/-- The data line DOUT: the cell at the shifter position, low while idle (10_state.md R27). -/
def dout (s : State) : Bool :=
  if s.txActive then (frameRead s s.txByte.toNat).getLsbD s.txBit.toNat else false

/-- complete() (44_transfer_engine.md R180). -/
def complete (s : State) : State :=
  { s with
    txActive := false
    txLen := 0
    txCount := 0
    txByte := 0
    txBit := 7
    done := true }

/-- emit(cell): the cell just sent is appended to the output trace (44_transfer_engine.md R178). -/
def emit (cell : Bool) (s : State) : State := { s with trace := s.trace ++ [cell] }

/-- The position moves on by one cell; after the last cell the transfer is complete
(44_transfer_engine.md R178). The sum tx_byte + 1 is exact (log 12). -/
def advance (s : State) : State :=
  if 0 < s.txBit.toNat then { s with txBit := s.txBit - 1 }
  else if s.txByte.toNat + 1 < s.txLen.toNat then { s with txBit := 7, txByte := s.txByte + 1 }
  else complete s

/-- shift(): a step only while a transfer is in flight (44_transfer_engine.md R178). -/
def shiftStep (s : State) : State := if s.txActive then advance (emit (dout s) s) else s

/-- `n` shifter steps. -/
def shiftSteps : Nat → State → State
  | 0, s => s
  | n + 1, s => shiftSteps n (shiftStep s)

end Sys2Proof.Machine
end

