-- ==== Sys2Proof/Machine/Ports.lean ====
section
/-! DEFINITION. The ports and the agents around them: IRQ and READY, the presented transaction, the time
source, power-on reset, and which agent moves next (spec 10_state.md R26-R29, 60_exceptions.md R204-R209,
70_reset_and_hazards.md R220). -/

namespace Sys2Proof.Machine

/-- IRQ = s.done AND s.irq_en (10_state.md R28). -/
def irq (s : State) : Bool := s.done && s.irqEn

/-- The transaction presented on the port (SEL = 1), if any (10_state.md R26). -/
def presented (s : State) : Option Txn := s.port.head?

/-- The presented transaction waits (30_encoding.md R97). -/
def portHeld (s : State) : Bool :=
  match presented s with
  | some t => waits (decode t) s
  | none => false

/-- READY is 1 except while a held transaction waits (10_state.md R29); the latency of a rendering TICK is
timing only (log 10). -/
def ready (s : State) : Bool := !portHeld s

/-- The presented transaction is performed in this step and leaves the port. -/
def accept (s : State) : State := { s with port := s.port.tail }

/-- A new step: the granted turn is used up, and Q is not valid unless this step performs a read. -/
def startTurn (s : State) : State := { s with agenda := s.agenda.tail, q := none }

/-- The agent that moves when no turn is granted (log 4): the host port if it has a step, else the shifter
if it has one, else none. -/
def defaultTurn (s : State) : Turn :=
  if s.port ≠ [] ∧ portHeld s = false then .host
  else if s.txActive then .shift
  else .idle

/-- Which agent moves next: the first turn granted (log 3), else the default. -/
def nextTurn (s : State) : Turn :=
  match s.agenda with
  | t :: _ => t
  | [] => defaultTurn s

/-- The time source presents a new value on NOW_US (60_exceptions.md R208). -/
def presentTime (now : Word) (s : State) : State := { s with nowUs := now }

/-- RST_N low (70_reset_and_hazards.md R220): every element takes its reset value, a transfer in flight is
abandoned, a held transaction is dropped. What the block does not hold stays: the time input, the other
transactions of the host, the turns, the cells already sent, the parameters (log 9). -/
def powerOnReset (s : State) : State :=
  { State.powerOn s.params with
    nowUs := s.nowUs
    port := if portHeld s then s.port.tail else s.port
    agenda := s.agenda
    trace := s.trace }

end Sys2Proof.Machine
end

