-- ==== Sys2Proof/Machine/Step.lean ====
section
/-! DEFINITION. One step: the next agent's step (spec 60_exceptions.md R209, 20_memory.md R71). -/

namespace Sys2Proof.Machine

/-- The host port's step: the presented transaction is performed and leaves the port; a held one stays
there and nothing else happens (30_encoding.md R97). -/
def hostStep (s : State) : Host.Outcome State Fault Refusal :=
  match presented s with
  | none => .next s
  | some t => if waits (decode t) s then .next s else exec (decode t) (accept s)

/-- One step of the machine. -/
def step (s : State) : Host.Outcome State Fault Refusal :=
  match nextTurn s with
  | .host => hostStep (startTurn s)
  | .shift => .next (shiftStep (startTurn s))
  | .time now => .next (presentTime now (startTurn s))
  | .powerOn => .next (powerOnReset (startTurn s))
  | .idle => .next (startTurn s)

/-- `s` with the transaction whose bits are `w` presented next and the next turn granted to the host port,
so that the next step decodes and runs exactly it (log 13). Every transaction is one 39-bit word. -/
def State.withFetchWord (s : State) (_nbits w : Nat) : State :=
  { s with port := BitVec.ofNat 39 w :: s.port, agenda := .host :: s.agenda }

end Sys2Proof.Machine
end

