-- ==== Sys2Proof/Machine/Program.lean ====
section
/-! DEFINITION. The pseudo-instructions and the host notation (spec 30_encoding.md R104-R106). They are no
transactions of their own: each expands to words of the port, and a program of lines is loaded into the
environment's data. Labels, IF and GOTO are the host's own control flow (R106) and are not part of it. -/

namespace Sys2Proof.Machine

/-- The pseudo-instructions of 30_encoding.md R105. -/
inductive Pseudo where
  | nop | tick | reset | splash
  | setpix (i rgb : Word)
  | getpix (i : Word)
  | fill (rgb : Word)
  | setcount (n : Word)
  | setdir (r : Word)
  | splashc (dur cnt rgb : Word)
  | peek (j : Word)
  | clrflags
  deriving DecidableEq, Repr

/-- `WR <reg>, <value>` for a named register (30_encoding.md R104). -/
def wrReg (r : Reg) (v : Word) : Txn := wrTxn r.addr v

/-- `RD <reg>` for a named register (30_encoding.md R104). -/
def rdReg (r : Reg) : Txn := rdTxn r.addr

/-- The expansions of 30_encoding.md R105. -/
def expand : Pseudo → List Txn
  | .nop => [wrReg .cmd 0]
  | .tick => [wrReg .cmd 1]
  | .reset => [wrReg .cmd 2]
  | .splash => [wrReg .cmd 3]
  | .setpix i rgb => [wrReg .pixIndex i, wrReg .pixData rgb]
  | .getpix i => [wrReg .pixIndex i, rdReg .pixData]
  | .fill rgb => [wrReg .pixFill rgb]
  | .setcount n => [wrReg .ledCount n]
  | .setdir r => [wrReg .ctrl r]
  | .splashc dur cnt rgb => [wrReg .ovColor rgb, wrReg .ovCount cnt, wrReg .ovDuration dur, wrReg .cmd 3]
  | .peek j => [wrReg .frameIndex j, rdReg .frameData]
  | .clrflags => [wrReg .status 0x700]

/-- A line of a host program without control flow (30_encoding.md R104-R106). -/
inductive HostLine where
  /-- `RD @0xNN` -/
  | rd (a : BitVec 6)
  /-- `WR @0xNN, v` -/
  | wr (a : BitVec 6) (v : Word)
  /-- a pseudo-instruction -/
  | pseudo (p : Pseudo)
  /-- `@now = t` -/
  | atNow (t : Word)
  /-- `SHIFT n` -/
  | shift (n : Nat)
  /-- `SHIFT *` -/
  | shiftAll
  deriving DecidableEq, Repr

/-- The transactions a line presents. -/
def lineTxns : HostLine → List Txn
  | .rd a => [rdTxn a]
  | .wr a v => [wrTxn a v]
  | .pseudo p => expand p
  | _ => []

/-- The turns a line grants. `SHIFT *` grants as many shifter turns as the longest frame has cells; those
after the transfer's end change nothing. Each transaction of a line grants one host turn, also one that will be
held: a held transaction uses its turn up, each later host turn then performs a transaction one back for each
turn used up, and later `SHIFT` and `@now` turns run ahead of their lines. The spec does not say how a held line and
the lines after it line up: DESIGN CHOICE, unsafe for a claim about such a program (log 19). -/
def lineTurns (p : Params) : HostLine → List Turn
  | .atNow t => [.time t]
  | .shift n => List.replicate n .shift
  | .shiftAll => List.replicate (8 * frameCap p) .shift
  | l => (lineTxns l).map fun _ => .host

/-- The environment's data for a program, after what is there already. -/
def loadProgram (lines : List HostLine) (s : State) : State :=
  { s with
    port := s.port ++ lines.flatMap lineTxns
    agenda := s.agenda ++ lines.flatMap (lineTurns s.params) }

end Sys2Proof.Machine
end

