-- ==== Sys2Proof/Machine/Timing.lean ====
section
/-! DEFINITION. Block timing as functions (spec 70_reset_and_hazards.md R240, 44_transfer_engine.md R179): no
step counts cycles (log 10). -/

namespace Sys2Proof.Machine

/-- The cells of a frame of N LEDs: 8 L(N) (70_reset_and_hazards.md R240). -/
def frameCells (p : Params) (n : Nat) : Nat := 8 * frameLen p n

/-- The clock cycles of a frame of N LEDs: 8 L(N) CELL_CYCLES (R240). -/
def frameCycles (p : Params) (n : Nat) : Nat := frameCells p n * p.cellCycles

/-- The clock cycles of a symbol group (one data bit): 3 cells (R240). -/
def symbolCycles (p : Params) : Nat := 3 * p.cellCycles

/-- The clock cycles of an LED block: 72 cells (R240). -/
def ledCycles (p : Params) : Nat := 72 * p.cellCycles

/-- The cells of the LEAD phase (44_transfer_engine.md R179). -/
def leadCells (p : Params) : Nat := 8 * p.leadBytes.toNat

/-- The cells of the PAYLOAD phase of N LEDs (44_transfer_engine.md R179). -/
def payloadCells (n : Nat) : Nat := 72 * n

/-- The cells of the LATCH phase (44_transfer_engine.md R179). -/
def latchCells (p : Params) : Nat := 8 * p.trailBytes.toNat

/-- The most cycles READY is low for a transaction that waits for the whole frame of N LEDs
(70_reset_and_hazards.md R227), and for a rendering TICK (R240). -/
def heldCyclesAtMost (p : Params) (n : Nat) : Nat := frameCycles p n

/-- The most cycles READY is low during a rendering TICK (R240). -/
def renderCyclesAtMost (p : Params) : Nat := p.renderLatency

end Sys2Proof.Machine
end

