-- ==== Sys2Proof/Safety.lean ====
section
/-! DEFINITION. What the claims are stated in: the invariants of the state (spec 10_state.md R22), the reset
values, and the cells a transfer puts on the line (40_bit_encoder.md R115). -/

namespace Sys2Proof.Machine

/-- The invariants every step keeps. The first three lines are those of 10_state.md R22; the rest says where
the two memories hold entries (20_memory.md R60-R62) and that both keep their canonical form. -/
structure Inv (s : State) : Prop where
  params_valid : s.params.valid
  count_le : s.ledCount.toNat ≤ s.params.maxLeds.toNat
  idle : s.txActive = false → s.txByte = 0 ∧ s.txBit = 7 ∧ s.txLen = 0 ∧ s.txCount = 0
  busy : s.txActive = true → s.txByte.toNat < s.txLen.toNat ∧
    s.txLen.toNat = frameLen s.params s.txCount.toNat ∧ s.txCount = s.ledCount
  pix_wf : Memory.wf s.pix
  pix_lt : ∀ c ∈ s.pix, c.1 < s.params.maxLeds.toNat
  frame_wf : Memory.wf s.frame
  frame_lt : ∀ c ∈ s.frame, c.1 < s.params.leadBytes.toNat + 9 * s.params.maxLeds.toNat
  frame_ge : ∀ c ∈ s.frame, s.params.leadBytes.toNat ≤ c.1
  frame_busy : s.txActive = true →
    ∀ c ∈ s.frame, c.1 < s.params.leadBytes.toNat + 9 * s.txCount.toNat

/-- The 24 cells of channel position k in slot sl of the frame buffer (20_memory.md R63). -/
def frameBlock (s : State) (sl : Nat) (k : Fin 3) : BitVec 24 :=
  frameRead s (blockBase s.params sl k) ++ frameRead s (blockBase s.params sl k + 1) ++
    frameRead s (blockBase s.params sl k + 2)

/-- While a transfer is in flight, every channel block of its payload is a sequence of symbol groups
(40_bit_encoder.md R110, R113). -/
def PayloadValid (s : State) : Prop :=
  s.txActive = true → ∀ sl < s.txCount.toNat, ∀ k : Fin 3, symbolsValid (frameBlock s sl k) = true

/-- Every element of 10_state.md R22 at its reset value. -/
structure ResetValues (p : Params) (s : State) : Prop where
  params : s.params = p
  ledCount : s.ledCount = p.resetLedCount
  control : s.reverse = false ∧ s.irqEn = false
  flags : s.dirty = false ∧ s.done = false ∧ s.errRange = false ∧ s.errCmd = false
  indices : s.pixIndex = 0 ∧ s.frameIndex = 0 ∧ s.encIn = 0
  staging : s.ovColorStg = 0 ∧ s.ovCountStg = 0 ∧ s.ovDurStg = 0
  overlay : s.ovActive = false ∧ s.ovColor = 0 ∧ s.ovCount = 0 ∧ s.ovDur = 0 ∧ s.ovStart = 0
  shifter : s.txActive = false ∧ s.txLen = 0 ∧ s.txCount = 0 ∧ s.txByte = 0 ∧ s.txBit = 7
  pix : ∀ i, pixRead s i = 0
  frame : ∀ j, frameRead s j = 0

/-- The number of cells of the frame in flight that are sent: 8 tx_byte + (7 - tx_bit) (20_memory.md R65 (c)). -/
def cellsSent (s : State) : Nat := 8 * s.txByte.toNat + (7 - s.txBit.toNat)

/-- Cell n of the frame buffer: bytes in increasing index, each from bit 7 down (20_memory.md R65 (c)). -/
def frameCell (s : State) (n : Nat) : Bool := (frameRead s (n / 8)).getLsbD (7 - n % 8)

/-- The bits of a vector, the most significant first. -/
def bitsMsbFirst {w : Nat} (v : BitVec w) : List Bool := (List.range w).map v.getMsbD

/-- The cells of a frame rendered in this state (40_bit_encoder.md R115): lead-in zeros, for each slot the LED
block of the color of the logical index it carries, latch zeros. `slot` is its own inverse, so `slot s sl`
is that logical index. -/
def cellStream (s : State) : List Bool :=
  List.replicate (leadCells s.params) false ++
    (List.range s.ledCount.toNat).flatMap
      (fun sl => bitsMsbFirst (ledBlock s.params.channelOrder (resolve s (slot s sl)))) ++
    List.replicate (latchCells s.params) false

/-- A TICK in this state renders: dirty, or made dirty by the expiry step, and not busy
(44_transfer_engine.md R173). -/
def tickRenders (s : State) : Prop :=
  (s.dirty = true ∨ expired s.nowUs s = true) ∧ s.txActive = false

end Sys2Proof.Machine
end

