-- ==== Sys2Proof/Certificates/Slice0/Obligations.lean ====
section
/-! DEFINITION. The statements for the provers. -/

open Sys2Proof Sys2Proof.Machine

/-! ## Encoding and decoding -/

/-- A few words written out from the examples of the spec decode to their rows (30_encoding.md R90, R98). -/
def Obligations.SpecExampleWordsDecode : Prop :=
  decode 0x0200000000#39 = .rdStatus ∧
  decode 0x4400000001#39 = .tick 0x1 ∧
  decode 0x4400000010#39 = .nop 0x10 ∧
  decode 0x4400000013#39 = .splash 0x13 ∧
  decode 0x4400000007#39 = .cmdRsv4 0x7 ∧
  decode 0x440000000F#39 = .cmdRsv8 0xF ∧
  decode 0x4300010002#39 = .wrLedCount 0x10002 ∧
  decode 0x46FF123456#39 = .wrPixData 0xFF123456 ∧
  decode 0x4A000186A0#39 = .wrOvDuration 100000 ∧
  decode 0x4D00000001#39 = .wrFrameIndex 1 ∧
  decode 0x4F000001FF#39 = .wrEnc 0x1FF ∧
  decode 0x3F00000000#39 = .rdRsv20 0x3F ∧
  decode 0x6000000001#39 = .wrRsv20 0x20 1

/-- Every row of the opcode map by its match and mask (30_encoding.md R98): a word that matches the row
decodes to the row's instruction, with D (and a reserved address) whole. -/
def Obligations.DecodeFollowsOpcodeMap : Prop :=
  ∀ T : Txn,
    let d : Word := T.extractLsb' 0 32
    let a : BitVec 6 := T.extractLsb' 32 6
    (T &&& 0x7F00000000 = 0x0000000000 → decode T = .rdCaps) ∧
    (T &&& 0x7F00000000 = 0x4000000000 → decode T = .wrCaps d) ∧
    (T &&& 0x7F00000000 = 0x0100000000 → decode T = .rdCtrl) ∧
    (T &&& 0x7F00000000 = 0x4100000000 → decode T = .wrCtrl d) ∧
    (T &&& 0x7F00000000 = 0x0200000000 → decode T = .rdStatus) ∧
    (T &&& 0x7F00000000 = 0x4200000000 → decode T = .wrStatus d) ∧
    (T &&& 0x7F00000000 = 0x0300000000 → decode T = .rdLedCount) ∧
    (T &&& 0x7F00000000 = 0x4300000000 → decode T = .wrLedCount d) ∧
    (T &&& 0x7F00000000 = 0x0400000000 → decode T = .rdCmd) ∧
    (T &&& 0x7F0000000F = 0x4400000000 → decode T = .nop d) ∧
    (T &&& 0x7F0000000F = 0x4400000001 → decode T = .tick d) ∧
    (T &&& 0x7F0000000F = 0x4400000002 → decode T = .reset d) ∧
    (T &&& 0x7F0000000F = 0x4400000003 → decode T = .splash d) ∧
    (T &&& 0x7F0000000C = 0x4400000004 → decode T = .cmdRsv4 d) ∧
    (T &&& 0x7F00000008 = 0x4400000008 → decode T = .cmdRsv8 d) ∧
    (T &&& 0x7F00000000 = 0x0500000000 → decode T = .rdPixIndex) ∧
    (T &&& 0x7F00000000 = 0x4500000000 → decode T = .wrPixIndex d) ∧
    (T &&& 0x7F00000000 = 0x0600000000 → decode T = .rdPixData) ∧
    (T &&& 0x7F00000000 = 0x4600000000 → decode T = .wrPixData d) ∧
    (T &&& 0x7F00000000 = 0x0700000000 → decode T = .rdPixFill) ∧
    (T &&& 0x7F00000000 = 0x4700000000 → decode T = .wrPixFill d) ∧
    (T &&& 0x7F00000000 = 0x0800000000 → decode T = .rdOvColor) ∧
    (T &&& 0x7F00000000 = 0x4800000000 → decode T = .wrOvColor d) ∧
    (T &&& 0x7F00000000 = 0x0900000000 → decode T = .rdOvCount) ∧
    (T &&& 0x7F00000000 = 0x4900000000 → decode T = .wrOvCount d) ∧
    (T &&& 0x7F00000000 = 0x0A00000000 → decode T = .rdOvDuration) ∧
    (T &&& 0x7F00000000 = 0x4A00000000 → decode T = .wrOvDuration d) ∧
    (T &&& 0x7F00000000 = 0x0B00000000 → decode T = .rdNow) ∧
    (T &&& 0x7F00000000 = 0x4B00000000 → decode T = .wrNow d) ∧
    (T &&& 0x7F00000000 = 0x0C00000000 → decode T = .rdFrameLen) ∧
    (T &&& 0x7F00000000 = 0x4C00000000 → decode T = .wrFrameLen d) ∧
    (T &&& 0x7F00000000 = 0x0D00000000 → decode T = .rdFrameIndex) ∧
    (T &&& 0x7F00000000 = 0x4D00000000 → decode T = .wrFrameIndex d) ∧
    (T &&& 0x7F00000000 = 0x0E00000000 → decode T = .rdFrameData) ∧
    (T &&& 0x7F00000000 = 0x4E00000000 → decode T = .wrFrameData d) ∧
    (T &&& 0x7F00000000 = 0x0F00000000 → decode T = .rdEnc) ∧
    (T &&& 0x7F00000000 = 0x4F00000000 → decode T = .wrEnc d) ∧
    (T &&& 0x7F00000000 = 0x1000000000 → decode T = .rdOvStart) ∧
    (T &&& 0x7F00000000 = 0x5000000000 → decode T = .wrOvStart d) ∧
    (T &&& 0x7F00000000 = 0x1100000000 → decode T = .rdTxPos) ∧
    (T &&& 0x7F00000000 = 0x5100000000 → decode T = .wrTxPos d) ∧
    (T &&& 0x7E00000000 = 0x1200000000 → decode T = .rdRsv12 a) ∧
    (T &&& 0x7E00000000 = 0x5200000000 → decode T = .wrRsv12 a d) ∧
    (T &&& 0x7C00000000 = 0x1400000000 → decode T = .rdRsv14 a) ∧
    (T &&& 0x7C00000000 = 0x5400000000 → decode T = .wrRsv14 a d) ∧
    (T &&& 0x7800000000 = 0x1800000000 → decode T = .rdRsv18 a) ∧
    (T &&& 0x7800000000 = 0x5800000000 → decode T = .wrRsv18 a d) ∧
    (T &&& 0x6000000000 = 0x2000000000 → decode T = .rdRsv20 a) ∧
    (T &&& 0x6000000000 = 0x6000000000 → decode T = .wrRsv20 a d)

/-- The decoder is total and the rows of the table are disjoint and cover every word (30_encoding.md R91):
exactly one row covers a word, the decoder's; the row depends on WE and A alone, and for a write to CMD on
D[3:0] besides; the instruction is well formed; and no word traps: in every state it has a next state. -/
def Obligations.EveryWordSelectsExactlyOneRow : Prop :=
  (∀ T : Txn, (opcodeTable.filter (TableRow.covers · T)).map TableRow.mnemonic = [(decode T).mnemonic]) ∧
  (∀ T T' : Txn, T.extractLsb' 32 7 = T'.extractLsb' 32 7 →
    (T.extractLsb' 32 7 = 0x44 → T.extractLsb' 0 4 = T'.extractLsb' 0 4) →
    (decode T).mnemonic = (decode T').mnemonic) ∧
  (∀ T : Txn, (decode T).wf = true) ∧
  (∀ (T : Txn) (s : State), ∃ t, exec (decode T) s = .next t)

/-- Decoding an encoded well-formed transaction gives it back (30_encoding.md R98, R104). -/
def Obligations.DecodeOfEncodeIsIdentity : Prop :=
  ∀ i : Instr, i.wf = true → decode (encode i) = i

/-- Encoding what a word decodes to gives the word back, a read's ignored D written as 0 (30_encoding.md R90). -/
def Obligations.EncodeOfDecodeIsCanonicalWord : Prop :=
  ∀ T : Txn, encode (decode T) =
    if T.getLsbD 38 = true then T else T &&& 0x7F00000000

/-! ## The step and its agents -/

/-- A host turn with a transaction presented that does not wait runs exactly the decoded instruction, in the
state where the turn is used up, the transaction has left the port and Q is not valid (30_encoding.md R91,
R97). The same for a transaction placed by `withFetchWord`, whatever turn was due. Turns, the list of presented
transactions and the per-step Q are the model's form of the ports (log 3, log 6, log 13). -/
def Obligations.HostStepRunsDecodedTransaction : Prop :=
  (∀ (s : State) (T : Txn), nextTurn s = .host → presented s = some T → waits (decode T) s = false →
    step s = exec (decode T)
      { s with agenda := s.agenda.tail, port := s.port.tail, q := none }) ∧
  (∀ (s : State) (nbits w : Nat), w < 2 ^ 39 → waits (decode (BitVec.ofNat 39 w)) s = false →
    decodeTableWord nbits w = some (decode (BitVec.ofNat 39 w)) ∧
    step (s.withFetchWord nbits w) = exec (decode (BitVec.ofNat 39 w)) { s with q := none })

/-- Held transactions (30_encoding.md R97): exactly a legal LED_COUNT write and RESET wait, exactly while a
transfer is in flight; READY is low then; a host turn performs nothing and leaves the transaction presented;
a shifter or time turn goes on and leaves it presented too. READY has a second cause in 10_state.md R29, a
rendering TICK, which the model leaves out by its own choice (log 10). That a host turn is used up without an
effect is the model's form of a step that is not enabled (log 7); turns as data and the cleared Q are its form
too (log 3, log 6). -/
def Obligations.HeldTransactionWaitsAtThePort : Prop :=
  ∀ (s : State) (T : Txn), presented s = some T →
    (waits (decode T) s = true ↔
      s.txActive = true ∧
        ((∃ d : Word, decode T = .wrLedCount d ∧
            (d.extractLsb' 0 16).toNat ≤ s.params.maxLeds.toNat) ∨
          ∃ d, decode T = .reset d)) ∧
    ready s = !waits (decode T) s ∧
    (waits (decode T) s = true → nextTurn s = .host →
      step s = .next { s with agenda := s.agenda.tail, q := none }) ∧
    (waits (decode T) s = true → nextTurn s = .shift →
      ∃ t, step s = .next t ∧ t.port = s.port ∧ t.trace = s.trace ++ [dout s]) ∧
    (∀ now, waits (decode T) s = true → nextTurn s = .time now →
      ∃ t, step s = .next t ∧ t.port = s.port ∧ t.nowUs = now)

/-- A held transaction is performed once the transfer in flight has ended (70_reset_and_hazards.md R227): with
the rest of the frame's cells granted to the shifter, the machine reaches a state, after at most 8 L(tx_count)
steps, where it is idle, the transaction is still presented, and the host's turn performs it. That turns are
granted by data is the model's choice (log 3), and the cleared Q its form (log 6). -/
def Obligations.HeldTransactionIsPerformedAfterDrain : Prop :=
  ∀ (s : State) (T : Txn) (rest : List Turn), Inv s → presented s = some T →
    waits (decode T) s = true →
    s.agenda = List.replicate (8 * s.txLen.toNat - cellsSent s) Turn.shift ++ Turn.host :: rest →
    8 * s.txLen.toNat - cellsSent s ≤ frameCells s.params s.txCount.toNat ∧
    ∃ u, Host.Core.run core (8 * s.txLen.toNat - cellsSent s) s = .next u ∧
      u.txActive = false ∧ u.done = true ∧ u.port = s.port ∧ u.agenda = Turn.host :: rest ∧
      step u = exec (decode T) { u with agenda := rest, port := s.port.tail, q := none }

/-- The time source's turn changes what NOW_US presents, an idle turn nothing (60_exceptions.md R208, R209,
R211); a turn is used up and Q is not valid in a step that performs no read (the model's form: log 3, log 6). -/
def Obligations.TimeAndIdleTurnsLeaveTheBlock : Prop :=
  ∀ s : State,
    (∀ now, nextTurn s = .time now →
      step s = .next { s with agenda := s.agenda.tail, q := none, nowUs := now }) ∧
    (nextTurn s = .idle → step s = .next { s with agenda := s.agenda.tail, q := none }) ∧
    (nextTurn s = .host → presented s = none →
      step s = .next { s with agenda := s.agenda.tail, q := none })

/-- No transaction but TICK, SPLASH and a NOW read depends on NOW_US (60_exceptions.md R208): any other does the
same whatever the input presents. That those three sample it is said by TickGate, TickIssuesOneTransfer,
SplashStartsTheStagedOverlay and PlainRegisterReads. NOW_US is a field of the state (log 5). -/
def Obligations.OnlyTickSplashAndNowReadSampleTime : Prop :=
  ∀ (i : Instr) (s t : State) (v : Word), (∀ d, i ≠ .tick d) → (∀ d, i ≠ .splash d) → i ≠ .rdNow →
    exec i s = .next t → exec i { s with nowUs := v } = .next { t with nowUs := v }

/-- No transaction and no step traps or stops (60_exceptions.md R200, R206, R207). -/
def Obligations.NothingTraps : Prop :=
  (∀ (i : Instr) (s : State), ∃ t, exec i s = .next t) ∧ (∀ s : State, ∃ t, step s = .next t)

/-! ## Reset and invariants -/

/-- Power-on reset (70_reset_and_hazards.md R220): from any state, with a transfer in flight or a transaction
held, every element takes its reset value and a held transaction is dropped. -/
def Obligations.PowerOnResetGivesResetValues : Prop :=
  (∀ p : Params, ResetValues p (State.powerOn p)) ∧
  (∀ s : State, nextTurn s = .powerOn →
    ∃ t, step s = .next t ∧ ResetValues s.params t ∧
      (ready s = false → t.port = s.port.tail))

/-- What a power-on reset leaves alone, a reading of the spec that is the model's (log 8, log 9): the
transactions that are not held, the time input, the cells already sent, the remaining turns. -/
def Obligations.PowerOnResetLeavesTheEnvironment : Prop :=
  ∀ s : State, nextTurn s = .powerOn →
    ∃ t, step s = .next t ∧ (ready s = true → t.port = s.port) ∧ t.nowUs = s.nowUs ∧
      t.trace = s.trace ∧ t.agenda = s.agenda.tail ∧ t.q = none ∧ t.params = s.params

/-- After power-on reset (70_reset_and_hazards.md R221): DOUT and IRQ are low, READY is high whatever is
presented, the first transaction presented is performed under the reset state, and a TICK sends nothing. -/
def Obligations.OutputsAfterPowerOnReset : Prop :=
  ∀ (p : Params) (T : Txn) (port : List Txn) (agenda : List Turn) (now d : Word),
    let r := { State.powerOn p with port := T :: port, agenda := .host :: agenda, nowUs := now }
    dout r = false ∧ irq r = false ∧ ready r = true ∧
    step r = exec (decode T)
      { State.powerOn p with port := port, agenda := agenda, nowUs := now } ∧
    exec (.tick d) r = .next r

/-- The invariant holds after power-on reset of every legal instance (10_state.md R22), and so of
`State.reset`, whose instance is the model's choice (log 2). -/
def Obligations.PowerOnStateMeetsInvariant : Prop :=
  (∀ p : Params, p.valid → Inv (State.powerOn p)) ∧ Inv State.reset

/-- Every step keeps the invariant (10_state.md R22): LED_COUNT within the capacity, the shifter at rest while
idle and inside its frame while busy, the memories inside their bounds and in canonical form, no entry of the
frame buffer outside the payload region. -/
def Obligations.StepKeepsInvariant : Prop :=
  ∀ s t : State, Inv s → step s = .next t → Inv t

/-- Every step keeps the payload in flight a sequence of symbol groups (40_bit_encoder.md R110, R113). -/
def Obligations.StepKeepsPayloadSymbols : Prop :=
  ∀ s t : State, Inv s → PayloadValid s → step s = .next t → PayloadValid t

/-! ## The Bit Encoder -/

/-- enc (40_bit_encoder.md R110): each data bit becomes the group {1, b[i], 0}, bit 7's group on top. -/
def Obligations.EncoderEmitsSymbolGroups : Prop :=
  ∀ (b : Byte) (i : Nat), i < 8 →
    (enc b).getLsbD (3 * i + 2) = true ∧ (enc b).getLsbD (3 * i + 1) = b.getLsbD i ∧
    (enc b).getLsbD (3 * i) = false

/-- The closed form, the corner values and injectivity (40_bit_encoder.md R111). -/
def Obligations.EncoderClosedForm : Prop :=
  (∀ b : Byte, enc b = 0x924924#24 ||| spread b) ∧
  enc 0x00 = 0x924924 ∧ enc 0xFF = 0xDB6DB6 ∧ enc 0x80 = 0xD24924 ∧ enc 0x01 = 0x924926 ∧
  (∀ b b' : Byte, enc b = enc b' → b = b')

/-- The inverse (40_bit_encoder.md R113). -/
def Obligations.DecodedEncodingIsTheValue : Prop :=
  (∀ c : BitVec 24, symbolsValid c = true ↔
    ∀ i < 8, c.getLsbD (3 * i + 2) = true ∧ c.getLsbD (3 * i) = false) ∧
  (∀ (c : BitVec 24), ∀ i < 8, (dec c).getLsbD i = c.getLsbD (3 * i + 1)) ∧
  (∀ b : Byte, symbolsValid (enc b) = true ∧ dec (enc b) = b)

/-- The other direction, read from 40_bit_encoder.md R110 and R113: 24 cells in valid groups are the encoding
of the value they decode to, so the encoder reaches every valid block. -/
def Obligations.ValidBlockIsAnEncoding : Prop :=
  ∀ c : BitVec 24, symbolsValid c = true → enc (dec c) = c

/-- WR_ENC and RD_ENC (40_bit_encoder.md R116, R117), and what ENC reads after power-on reset. -/
def Obligations.EncRegisterWriteAndRead : Prop :=
  ∀ (d : Word) (s : State),
    exec (.wrEnc d) s = .next { s with encIn := d.extractLsb' 0 8 } ∧
    exec .rdEnc s = .next { s with q := some (0#8 ++ enc s.encIn) } ∧
    ∀ p : Params, exec .rdEnc (State.powerOn p) =
      .next { State.powerOn p with q := some 0x00924924 }

/-! ## Configuration and status -/

/-- RD_CAPS (41_config_status.md R120, 10_state.md R31): the three build parameters, nothing else changes. -/
def Obligations.CapsReadsBuildParameters : Prop :=
  ∀ s : State, ∃ v : Word, exec .rdCaps s = .next { s with q := some v } ∧
    v.extractLsb' 0 16 = s.params.maxLeds ∧ v.extractLsb' 16 8 = s.params.leadBytes ∧
    v.extractLsb' 24 8 = s.params.trailBytes

/-- WR_CTRL (41_config_status.md R121): REVERSE and IRQ_EN from D, dirty set when REVERSE changes, not held;
setting IRQ_EN while DONE is 1 raises IRQ at once. -/
def Obligations.CtrlWrite : Prop :=
  ∀ (d : Word) (s : State), ∃ t,
    exec (.wrCtrl d) s = .next t ∧
    t = { s with
      reverse := d.getLsbD 0
      irqEn := d.getLsbD 1
      dirty := s.dirty || (d.getLsbD 0 != s.reverse) } ∧
    (s.done = true → d.getLsbD 1 = true → irq t = true) ∧
    waits (.wrCtrl d) s = false

/-- RD_CTRL (41_config_status.md R122): REVERSE at bit 0, IRQ_EN at bit 1, every other bit 0. -/
def Obligations.CtrlRead : Prop :=
  ∀ s : State, ∃ v : Word, exec .rdCtrl s = .next { s with q := some v } ∧
    v.getLsbD 0 = s.reverse ∧ v.getLsbD 1 = s.irqEn ∧ ∀ i, 2 ≤ i → v.getLsbD i = false

/-- RD_STATUS (41_config_status.md R123, 10_state.md R33): every field at its bits, reserved bits 0, and BUSY
exactly when PHASE is not IDLE. -/
def Obligations.StatusRead : Prop :=
  ∀ s : State, ∃ v : Word, exec .rdStatus s = .next { s with q := some v } ∧
    v.getLsbD 0 = s.txActive ∧ v.getLsbD 1 = s.dirty ∧ v.getLsbD 2 = s.ovActive ∧
    v.extractLsb' 3 2 = phaseCode (phase s) ∧ v.extractLsb' 5 3 = 0 ∧
    v.getLsbD 8 = s.done ∧ v.getLsbD 9 = s.errRange ∧ v.getLsbD 10 = s.errCmd ∧
    (∀ i, 11 ≤ i → v.getLsbD i = false) ∧
    (v.getLsbD 0 = true ↔ v.extractLsb' 3 2 ≠ 0)

/-- WR_STATUS (41_config_status.md R124): a 1 clears its sticky flag, a 0 leaves it, nothing else changes;
clearing DONE lowers IRQ. -/
def Obligations.StatusWriteClearsStickyFlags : Prop :=
  ∀ (d : Word) (s : State), ∃ t,
    exec (.wrStatus d) s = .next t ∧
    t = { s with
      done := if d.getLsbD 8 = true then false else s.done
      errRange := if d.getLsbD 9 = true then false else s.errRange
      errCmd := if d.getLsbD 10 = true then false else s.errCmd } ∧
    (d.getLsbD 8 = true → irq t = false)

/-- WR_LED_COUNT (41_config_status.md R125): above the capacity refused at once with ERR_RANGE, idle or busy;
a legal count is performed when idle and waits, performing nothing, while busy. -/
def Obligations.LedCountWrite : Prop :=
  ∀ (d : Word) (s : State),
    let n : BitVec 16 := d.extractLsb' 0 16
    (s.params.maxLeds < n →
      exec (.wrLedCount d) s = .next { s with errRange := true } ∧ waits (.wrLedCount d) s = false) ∧
    (n ≤ s.params.maxLeds → s.txActive = false →
      exec (.wrLedCount d) s = .next { s with ledCount := n, dirty := true } ∧
      waits (.wrLedCount d) s = false) ∧
    (n ≤ s.params.maxLeds → s.txActive = true →
      exec (.wrLedCount d) s = .next s ∧ waits (.wrLedCount d) s = true)

/-- Reads of a register that is one state element or the time input: the element zero-extended, nothing else
changes, also while a transfer is in flight (R126, R141, R152, R154, R156, R157, R158, R183). -/
def Obligations.PlainRegisterReads : Prop :=
  ∀ s : State,
    exec .rdLedCount s = .next { s with q := some (0#16 ++ s.ledCount) } ∧
    exec .rdPixIndex s = .next { s with q := some (0#16 ++ s.pixIndex) } ∧
    exec .rdOvColor s = .next { s with q := some (0#8 ++ s.ovColorStg) } ∧
    exec .rdOvCount s = .next { s with q := some (0#16 ++ s.ovCountStg) } ∧
    exec .rdOvDuration s = .next { s with q := some s.ovDurStg } ∧
    exec .rdOvStart s = .next { s with q := some s.ovStart } ∧
    exec .rdNow s = .next { s with q := some s.nowUs } ∧
    exec .rdFrameIndex s = .next { s with q := some (0#12 ++ s.frameIndex) } ∧
    waits .rdLedCount s = false

/-- Writes to a plain register take exactly their field of D and change nothing else: not dirty, no active
overlay, no error (R140, R151, R153, R155, R182). -/
def Obligations.PlainRegisterWrites : Prop :=
  ∀ (d : Word) (s : State),
    exec (.wrPixIndex d) s = .next { s with pixIndex := d.extractLsb' 0 16 } ∧
    exec (.wrOvColor d) s = .next { s with ovColorStg := d.extractLsb' 0 24 } ∧
    exec (.wrOvCount d) s = .next { s with ovCountStg := d.extractLsb' 0 16 } ∧
    exec (.wrOvDuration d) s = .next { s with ovDurStg := d } ∧
    exec (.wrFrameIndex d) s = .next { s with frameIndex := d.extractLsb' 0 20 }

/-- Writes without effect: to read-only registers, to reserved addresses, and NOP (R128, R131, R185); none of
them is held. -/
def Obligations.WritesWithoutEffect : Prop :=
  ∀ (i : Instr) (a : BitVec 6) (d : Word) (s : State),
    i ∈ [Instr.wrCaps d, .wrNow d, .wrFrameLen d, .wrFrameData d, .wrOvStart d, .wrTxPos d,
      .wrRsv12 a d, .wrRsv14 a d, .wrRsv18 a d, .wrRsv20 a d, .nop d] →
    exec i s = .next s ∧ waits i s = false

/-- Reads of write-only registers and of reserved addresses return 0 (R129, R130). -/
def Obligations.WriteOnlyAndReservedReadsReturnZero : Prop :=
  ∀ (i : Instr) (a : BitVec 6) (s : State),
    i ∈ [Instr.rdCmd, .rdPixFill, .rdRsv12 a, .rdRsv14 a, .rdRsv18 a, .rdRsv20 a] →
    exec i s = .next { s with q := some 0 }

/-- A reserved CMD code sets ERR_CMD and does nothing else, busy or not (44_transfer_engine.md R186). -/
def Obligations.ReservedCommandSetsErrCmd : Prop :=
  ∀ (d : Word) (s : State),
    exec (.cmdRsv4 d) s = .next { s with errCmd := true } ∧
    exec (.cmdRsv8 d) s = .next { s with errCmd := true } ∧
    waits (.cmdRsv4 d) s = false ∧ waits (.cmdRsv8 d) s = false

/-! ## The pixel store -/

/-- WR_PIX_DATA (42_pixel_store.md R142): in range the one entry takes D[23:0], every other entry reads as
before, dirty is set and nothing else changes; out of range ERR_RANGE alone is set; never held. -/
def Obligations.PixDataWrite : Prop :=
  ∀ (d : Word) (s : State), Memory.wf s.pix →
    waits (.wrPixData d) s = false ∧
    (s.pixIndex < s.ledCount →
      ∃ t, exec (.wrPixData d) s = .next t ∧ t = { s with pix := t.pix, dirty := true } ∧
        ∀ j, pixRead t j = if j = s.pixIndex.toNat then d.extractLsb' 0 24 else pixRead s j) ∧
    (s.ledCount ≤ s.pixIndex → exec (.wrPixData d) s = .next { s with errRange := true })

/-- RD_PIX_DATA (42_pixel_store.md R143): the stored word in range, 0 and no flag out of range; the overlay
does not matter. -/
def Obligations.PixDataRead : Prop :=
  ∀ s : State,
    (s.pixIndex < s.ledCount →
      exec .rdPixData s = .next { s with q := some (0#8 ++ pixRead s s.pixIndex.toNat) }) ∧
    (s.ledCount ≤ s.pixIndex → exec .rdPixData s = .next { s with q := some 0 })

/-- WR_PIX_FILL (42_pixel_store.md R144): every entry below LED_COUNT takes D[23:0], every other reads as
before, dirty is set (also when LED_COUNT is 0) and nothing else changes; never held. -/
def Obligations.PixFillWritesTheStrip : Prop :=
  ∀ (d : Word) (s : State),
    waits (.wrPixFill d) s = false ∧
    ∃ t, exec (.wrPixFill d) s = .next t ∧ t = { s with pix := t.pix, dirty := true } ∧
      ∀ j, pixRead t j = if j < s.ledCount.toNat then d.extractLsb' 0 24 else pixRead s j

/-! ## The overlay -/

/-- SPLASH (43_overlay.md R159): the staging registers and NOW_US become the active overlay. -/
def Obligations.SplashStartsTheStagedOverlay : Prop :=
  ∀ (d : Word) (s : State),
    exec (.splash d) s = .next { s with
      ovColor := s.ovColorStg
      ovCount := s.ovCountStg
      ovDur := s.ovDurStg
      ovStart := s.nowUs
      ovActive := true
      dirty := true } ∧
    waits (.splash d) s = false

/-- The expiry predicate (43_overlay.md R160): the time since the start, modulo 2^32, has reached the duration;
with duration 0 an active overlay is expired at every time. -/
def Obligations.OverlayExpiryPredicate : Prop :=
  ∀ (now : Word) (s : State),
    (expired now s = true ↔
      s.ovActive = true ∧ s.ovDur.toNat ≤ (now.toNat + (2 ^ 32 - s.ovStart.toNat)) % 2 ^ 32) ∧
    (s.ovActive = true → s.ovDur = 0 → expired now s = true)

/-- While an overlay is active, the rendered frame ignores the pixel store entirely (43_overlay.md R150): two
states that differ only in it render the same frame, and the frames agree whatever is not shown. -/
def Obligations.ActiveOverlayHidesPixelStore : Prop :=
  ∀ (d : Word) (s : State) (m : Memory 24), s.ovActive = true → expired s.nowUs s = false →
    ∃ t t', exec (.tick d) s = .next t ∧ exec (.tick d) { s with pix := m } = .next t' ∧
      t' = { t with pix := m }

/-! ## The tick and the render -/

/-- The gate (44_transfer_engine.md R171, R173; 70_reset_and_hazards.md R226): a TICK while busy runs the
expiry step alone and leaves dirty as it is or set; a TICK with nothing to do changes nothing; a TICK that
does not render is the expiry step alone; a TICK is never held. -/
def Obligations.TickGate : Prop :=
  ∀ (d : Word) (s : State),
    (s.txActive = true →
      exec (.tick d) s = .next (if expired s.nowUs s = true
        then { s with ovActive := false, dirty := true } else s)) ∧
    (s.dirty = false → expired s.nowUs s = false → exec (.tick d) s = .next s) ∧
    (¬ tickRenders s → exec (.tick d) s = .next { s with
      ovActive := s.ovActive && !expired s.nowUs s
      dirty := s.dirty || expired s.nowUs s }) ∧
    waits (.tick d) s = false

/-- A TICK that renders issues one transfer and clears dirty (44_transfer_engine.md R170, R177): the shifter
starts at byte 0 bit 7 of a frame of L(N) bytes, whose first cell DOUT shows; a zero-length frame is done at
once. Only these fields and the frame buffer change (what it holds: TickWritesTheFrameLayout). -/
def Obligations.TickIssuesOneTransfer : Prop :=
  ∀ (d : Word) (s : State), tickRenders s →
    ∃ t, exec (.tick d) s = .next t ∧
      (0 < frameLen s.params s.ledCount.toNat →
        t = { s with
          ovActive := s.ovActive && !expired s.nowUs s
          frame := t.frame
          dirty := false
          txActive := true
          txLen := BitVec.ofNat 20 (frameLen s.params s.ledCount.toNat)
          txCount := s.ledCount
          txByte := 0
          txBit := 7 } ∧
        t.txLen.toNat = frameLen s.params s.ledCount.toNat ∧
        dout t = (frameRead t 0).getLsbD 7) ∧
      (frameLen s.params s.ledCount.toNat = 0 →
        t = { s with
          ovActive := s.ovActive && !expired s.nowUs s
          frame := t.frame
          dirty := false
          done := true })

/-- The frame a rendering TICK writes (20_memory.md R62, R63; 43_overlay.md R161; 44_transfer_engine.md R174,
R176): each byte of each channel block of each LED, the color resolved after the expiry step, in the LED's
slot (R175); every byte outside the payload is 0. -/
def Obligations.TickWritesTheFrameLayout : Prop :=
  ∀ (d : Word) (s : State), Inv s → tickRenders s →
    ∃ t, exec (.tick d) s = .next t ∧
      (∀ (i : Nat) (k m : Fin 3), i < s.ledCount.toNat →
        frameRead t (s.params.leadBytes.toNat
            + 9 * (if s.reverse = true then s.ledCount.toNat - 1 - i else i) + 3 * k.val + m.val) =
          (enc (chan
            (if s.ovActive = true ∧ expired s.nowUs s = false then
              (if i < s.ovCount.toNat then s.ovColor else 0) else pixRead s i)
            (channelAt s.params.channelOrder k))).extractLsb' (16 - 8 * m.val) 8) ∧
      (∀ j, j < s.params.leadBytes.toNat ∨
          s.params.leadBytes.toNat + 9 * s.ledCount.toNat ≤ j → frameRead t j = 0)

/-- The direction flag maps logical indices to slots one to one (44_transfer_engine.md R175). -/
def Obligations.SlotIsABijection : Prop :=
  ∀ s : State,
    (∀ i < s.ledCount.toNat, slot s i < s.ledCount.toNat ∧ slot s (slot s i) = i ∧
      slot s i = if s.reverse = true then s.ledCount.toNat - 1 - i else i) ∧
    (∀ sl < s.ledCount.toNat, ∃ i, i < s.ledCount.toNat ∧ slot s i = sl ∧
      ∀ i' < s.ledCount.toNat, slot s i' = sl → i' = i)

/-- Reversal mirrors the payload (44_transfer_engine.md R175, vector S-E6): the LED block of slot sl of the
reversed frame is the block of slot N - 1 - sl of the normal one. -/
def Obligations.ReversedFrameMirrorsNormalFrame : Prop :=
  ∀ (d : Word) (s : State), Inv s → tickRenders s →
    ∃ t t', exec (.tick d) { s with reverse := false } = .next t ∧
      exec (.tick d) { s with reverse := true } = .next t' ∧
      ∀ sl < s.ledCount.toNat, ∀ c < 9,
        frameRead t' (s.params.leadBytes.toNat + 9 * sl + c) =
          frameRead t (s.params.leadBytes.toNat + 9 * (s.ledCount.toNat - 1 - sl) + c)

/-- RESET (44_transfer_engine.md R187): idle, every pixel entry below MAX_LEDS reads 0, the overlay and its
staging registers are 0, dirty is set, nothing else changes; busy, it waits and performs nothing. -/
def Obligations.ResetCommand : Prop :=
  ∀ (d : Word) (s : State),
    (s.txActive = false →
      waits (.reset d) s = false ∧
      ∃ t, exec (.reset d) s = .next t ∧
        t = { s with
          pix := t.pix
          ovActive := false
          ovColor := 0
          ovCount := 0
          ovDur := 0
          ovStart := 0
          ovColorStg := 0
          ovCountStg := 0
          ovDurStg := 0
          dirty := true } ∧
        ∀ j, pixRead t j = if j < s.params.maxLeds.toNat then 0 else pixRead s j) ∧
    (s.txActive = true → waits (.reset d) s = true ∧ exec (.reset d) s = .next s)

/-! ## The shifter -/

/-- A shifter turn (44_transfer_engine.md R178, R180): nothing while idle; else the cell on DOUT is appended to
the trace and the position moves to the next bit, the next byte's bit 7, or the end, where the transfer is
complete and DONE is set. In every case, also while idle, the turn is used up and Q is not valid, which is the
model's form (log 3, log 6); the trace is a record in the state (log 8); the sum tx_byte + 1 is exact (log 12),
which matters only in states outside `Inv`. -/
def Obligations.ShifterSendsOneCell : Prop :=
  ∀ s : State, nextTurn s = .shift →
    let u := { s with agenda := s.agenda.tail, q := none }
    (s.txActive = false → step s = .next u) ∧
    (s.txActive = true → 0 < s.txBit.toNat →
      step s = .next { u with
        trace := s.trace ++ [(frameRead s s.txByte.toNat).getLsbD s.txBit.toNat]
        txBit := s.txBit - 1 }) ∧
    (s.txActive = true → s.txBit = 0 → s.txByte.toNat + 1 < s.txLen.toNat →
      step s = .next { u with
        trace := s.trace ++ [(frameRead s s.txByte.toNat).getLsbD 0]
        txBit := 7
        txByte := s.txByte + 1 }) ∧
    (s.txActive = true → s.txBit = 0 → s.txLen.toNat ≤ s.txByte.toNat + 1 →
      step s = .next { u with
        trace := s.trace ++ [(frameRead s s.txByte.toNat).getLsbD 0]
        txActive := false
        txLen := 0
        txCount := 0
        txByte := 0
        txBit := 7
        done := true })

/-- The phase follows the position, and DOUT is low outside the payload (44_transfer_engine.md R179). -/
def Obligations.PhaseFollowsPositionAndLineIsLowOutsidePayload : Prop :=
  ∀ s : State, Inv s →
    (phase s = .idle ↔ s.txActive = false) ∧
    (phase s = .lead ↔ s.txActive = true ∧ cellsSent s < leadCells s.params) ∧
    (phase s = .payload ↔ s.txActive = true ∧ leadCells s.params ≤ cellsSent s ∧
      cellsSent s < leadCells s.params + payloadCells s.txCount.toNat) ∧
    (phase s = .latch ↔ s.txActive = true ∧
      leadCells s.params + payloadCells s.txCount.toNat ≤ cellsSent s ∧
      cellsSent s < leadCells s.params + payloadCells s.txCount.toNat + latchCells s.params) ∧
    (phase s ≠ .payload → dout s = false)

/-- A transfer sends the rest of its frame cell by cell, in order, and then ends (44_transfer_engine.md R178,
R180): after n shifter steps exactly the next n cells are on the trace (log 8); it is in flight before the last
step and complete after it. -/
def Obligations.TransferSendsItsFrameInOrder : Prop :=
  ∀ s : State, Inv s → s.txActive = true →
    cellsSent s < 8 * s.txLen.toNat ∧
    (∀ n, n < 8 * s.txLen.toNat - cellsSent s →
      (shiftSteps n s).txActive = true ∧ cellsSent (shiftSteps n s) = cellsSent s + n ∧
      (shiftSteps n s).trace =
        s.trace ++ (List.range n).map (fun j => frameCell s (cellsSent s + j))) ∧
    shiftSteps (8 * s.txLen.toNat - cellsSent s) s =
      { s with
        txActive := false
        txLen := 0
        txCount := 0
        txByte := 0
        txBit := 7
        done := true
        trace := s.trace ++ (List.range (8 * s.txLen.toNat - cellsSent s)).map
          (fun j => frameCell s (cellsSent s + j)) }

/-- From a rendering TICK to the wire (40_bit_encoder.md R115): the transfer it issues puts exactly the cell
stream of the resolved colors on DOUT (the cells on the trace, log 8), 8 L(N) cells of it, and then DONE is set
and the line is low as long as no transfer is in flight. -/
def Obligations.TickSendsTheCellStream : Prop :=
  ∀ (d : Word) (s : State), Inv s → tickRenders s → 0 < frameLen s.params s.ledCount.toNat →
    (cellStream (expireOverlay s.nowUs s)).length = frameCells s.params s.ledCount.toNat ∧
    ∃ t, exec (.tick d) s = .next t ∧
      let u := shiftSteps (frameCells s.params s.ledCount.toNat) t
      u.trace = s.trace ++ cellStream (expireOverlay s.nowUs s) ∧
      u.txActive = false ∧ u.done = true ∧ ∀ v : State, v.txActive = false → dout v = false

/-- No race on the frame buffer (20_memory.md R72, 10_state.md R53): no step but a power-on reset changes it
while a transfer is in flight, and the only step that changes it otherwise is a host turn that performs TICK. -/
def Obligations.FrameIsNotWrittenDuringATransfer : Prop :=
  ∀ s t : State, step s = .next t → nextTurn s ≠ .powerOn →
    (s.txActive = true → t.frame = s.frame) ∧
    (t.frame ≠ s.frame → nextTurn s = .host ∧ ∃ T d, presented s = some T ∧ decode T = .tick d)

/-- No cancellation (44_transfer_engine.md R189): a step other than a power-on reset leaves a transfer in flight
as it is, or is the shifter's and sends its next cell, or its last. -/
def Obligations.NoStepCancelsATransfer : Prop :=
  ∀ s t : State, Inv s → s.txActive = true → step s = .next t → nextTurn s ≠ .powerOn →
    (t.txActive = true ∧ t.txLen = s.txLen ∧ t.txCount = s.txCount ∧ t.txByte = s.txByte ∧
      t.txBit = s.txBit ∧ t.trace = s.trace) ∨
    (nextTurn s = .shift ∧ t.trace = s.trace ++ [dout s] ∧
      ((t.txActive = true ∧ t.txLen = s.txLen ∧ t.txCount = s.txCount ∧
          cellsSent t = cellsSent s + 1 ∧ cellsSent t < 8 * s.txLen.toNat) ∨
        (t.txActive = false ∧ t.done = true ∧ cellsSent s + 1 = 8 * s.txLen.toNat)))

/-- The completion interrupt (10_state.md R28; 60_exceptions.md R203, R204): the shifter turn that ends a
transfer makes IRQ equal IRQ_EN; clearing DONE or IRQ_EN lowers it; no other bit of those writes matters. -/
def Obligations.IrqFollowsDoneAndEnable : Prop :=
  ∀ (s t : State) (d : Word),
    (nextTurn s = .shift → step s = .next t → s.txActive = true → t.txActive = false →
      irq t = s.irqEn) ∧
    (exec (.wrStatus d) s = .next t → irq t = (irq s && !d.getLsbD 8)) ∧
    (exec (.wrCtrl d) s = .next t → irq t = (s.done && d.getLsbD 1))

/-! ## Read-back -/

/-- RD_FRAME_LEN, RD_FRAME_DATA, RD_TX_POS (44_transfer_engine.md R181, R184, R188). -/
def Obligations.FrameAndShifterReadBack : Prop :=
  ∀ s : State,
    (∃ v : Word, exec .rdFrameLen s = .next { s with q := some v } ∧
      v.toNat = frameLen s.params s.ledCount.toNat ∧
      (Inv s → s.txActive = true → v.toNat = s.txLen.toNat)) ∧
    (s.frameIndex.toNat < frameCap s.params →
      exec .rdFrameData s = .next { s with q := some (0#24 ++ frameRead s s.frameIndex.toNat) }) ∧
    (frameCap s.params ≤ s.frameIndex.toNat → exec .rdFrameData s = .next { s with q := some 0 }) ∧
    (s.txActive = false → exec .rdTxPos s = .next { s with q := some 0 }) ∧
    (s.txActive = true → ∃ v : Word, exec .rdTxPos s = .next { s with q := some v } ∧
      v.extractLsb' 0 20 = s.txByte ∧ v.extractLsb' 20 4 = 0 ∧ v.extractLsb' 24 3 = s.txBit ∧
      v.extractLsb' 27 5 = 0)

/-! ## Whole-machine rules over every transaction -/

/-- No read has a side effect (20_memory.md R69): a transaction with WE = 0 changes nothing but Q, which it
makes valid; the block goes on as if it had not happened. -/
def Obligations.ReadsHaveNoSideEffect : Prop :=
  ∀ (T : Txn) (s : State), T.getLsbD 38 = false →
    ∃ v : Word, exec (decode T) s = .next { s with q := some v } ∧
      ∀ q, exec (decode T) { s with q := q } = .next { s with q := some v }

/-- Dirty (10_state.md R24): a transaction clears it only as a TICK that renders, and sets it only as one of
the named mutations. -/
def Obligations.WhatSetsAndClearsDirty : Prop :=
  ∀ (i : Instr) (s t : State), exec i s = .next t →
    (s.dirty = true → t.dirty = false → (∃ d, i = .tick d) ∧ s.txActive = false) ∧
    (s.dirty = false → t.dirty = true →
      (∃ d, i = .wrCtrl d ∧ d.getLsbD 0 ≠ s.reverse) ∨
      (∃ d, i = .wrLedCount d ∧ s.txActive = false ∧ d.extractLsb' 0 16 ≤ s.params.maxLeds) ∨
      (∃ d, i = .wrPixData d ∧ s.pixIndex < s.ledCount) ∨
      (∃ d, i = .wrPixFill d) ∨
      (∃ d, i = .splash d) ∨
      (∃ d, i = .tick d ∧ expired s.nowUs s = true ∧ s.txActive = true) ∨
      (∃ d, i = .reset d ∧ s.txActive = false))

/-- The causes of the two errors (60_exceptions.md R201, R202): a transaction sets ERR_RANGE exactly as a
PIX_DATA write at an index at or above LED_COUNT or an LED_COUNT write above MAX_LEDS, and ERR_CMD exactly as
a write to CMD with a code of 4 to 15; an operation with an error changes nothing else; an out-of-range read
returns 0 without a flag. -/
def Obligations.CausesOfTheErrorFlags : Prop :=
  ∀ (T : Txn) (s t : State), exec (decode T) s = .next t →
    (s.errRange = false → (t.errRange = true ↔
      (T.extractLsb' 32 7 = 0x46 ∧ s.ledCount ≤ s.pixIndex) ∨
      (T.extractLsb' 32 7 = 0x43 ∧ s.params.maxLeds < T.extractLsb' 0 16))) ∧
    (s.errCmd = false → (t.errCmd = true ↔
      T.extractLsb' 32 7 = 0x44 ∧ 4 ≤ (T.extractLsb' 0 4).toNat)) ∧
    (s.errRange = false → t.errRange = true → t = { s with errRange := true }) ∧
    (s.errCmd = false → t.errCmd = true → t = { s with errCmd := true }) ∧
    (s.ledCount ≤ s.pixIndex → exec .rdPixData s = .next { s with q := some 0 }) ∧
    (frameCap s.params ≤ s.frameIndex.toNat → exec .rdFrameData s = .next { s with q := some 0 })

/-- The sticky flags (60_exceptions.md R200, 10_state.md R33): a transaction clears one only as a STATUS write
with its bit set, and no shifter, time or idle turn clears one. -/
def Obligations.StickyFlagsStayUntilCleared : Prop :=
  (∀ (i : Instr) (s t : State), exec i s = .next t →
    (s.done = true → t.done = false → ∃ d, i = .wrStatus d ∧ d.getLsbD 8 = true) ∧
    (s.errRange = true → t.errRange = false → ∃ d, i = .wrStatus d ∧ d.getLsbD 9 = true) ∧
    (s.errCmd = true → t.errCmd = false → ∃ d, i = .wrStatus d ∧ d.getLsbD 10 = true)) ∧
  (∀ s t : State, step s = .next t → nextTurn s ≠ .host → nextTurn s ≠ .powerOn →
    (s.done = true → t.done = true) ∧ t.errRange = s.errRange ∧ t.errCmd = s.errCmd)

/-- The frame of every transaction: each register, flag and memory entry is unchanged except by the
transactions the spec names for it (10_state.md R22 "written by", R24, R50-R53; 20_memory.md R69). No transaction
changes the parameters, the time input, the port, the turns or the trace, and a write leaves Q alone; these are
fields by the model's choice or reading (log 1, log 5, log 3, log 8, log 6). -/
def Obligations.TransactionFrame : Prop :=
  ∀ (i : Instr) (s t : State), exec i s = .next t →
    (t.params = s.params ∧ t.nowUs = s.nowUs ∧ t.port = s.port ∧ t.agenda = s.agenda ∧
      t.trace = s.trace) ∧
    ((∀ d, i ≠ .wrLedCount d) → t.ledCount = s.ledCount) ∧
    ((∀ d, i ≠ .wrCtrl d) → t.reverse = s.reverse ∧ t.irqEn = s.irqEn) ∧
    ((∀ d, i ≠ .wrCtrl d) → (∀ d, i ≠ .wrLedCount d) → (∀ d, i ≠ .wrPixData d) →
      (∀ d, i ≠ .wrPixFill d) → (∀ d, i ≠ .splash d) → (∀ d, i ≠ .tick d) → (∀ d, i ≠ .reset d) →
        t.dirty = s.dirty) ∧
    ((∀ d, i ≠ .wrStatus d) →
      ((∀ d, i ≠ .tick d) → t.done = s.done) ∧
      ((∀ d, i ≠ .wrLedCount d) → (∀ d, i ≠ .wrPixData d) → t.errRange = s.errRange) ∧
      ((∀ d, i ≠ .cmdRsv4 d) → (∀ d, i ≠ .cmdRsv8 d) → t.errCmd = s.errCmd)) ∧
    ((∀ d, i ≠ .wrPixIndex d) → t.pixIndex = s.pixIndex) ∧
    ((∀ d, i ≠ .wrFrameIndex d) → t.frameIndex = s.frameIndex) ∧
    ((∀ d, i ≠ .wrEnc d) → t.encIn = s.encIn) ∧
    ((∀ d, i ≠ .reset d) →
      ((∀ d, i ≠ .wrOvColor d) → t.ovColorStg = s.ovColorStg) ∧
      ((∀ d, i ≠ .wrOvCount d) → t.ovCountStg = s.ovCountStg) ∧
      ((∀ d, i ≠ .wrOvDuration d) → t.ovDurStg = s.ovDurStg) ∧
      ((∀ d, i ≠ .splash d) → t.ovColor = s.ovColor ∧ t.ovCount = s.ovCount ∧ t.ovDur = s.ovDur ∧
        t.ovStart = s.ovStart ∧ ((∀ d, i ≠ .tick d) → t.ovActive = s.ovActive))) ∧
    (∀ d, i = .tick d → t.ovActive = (s.ovActive && !expired s.nowUs s)) ∧
    ((∀ d, i ≠ .tick d) → t.txActive = s.txActive ∧ t.txLen = s.txLen ∧ t.txCount = s.txCount ∧
      t.txByte = s.txByte ∧ t.txBit = s.txBit ∧ ∀ j, frameRead t j = frameRead s j) ∧
    (∀ d, i = .tick d → ¬ tickRenders s → ∀ j, frameRead t j = frameRead s j) ∧
    (Memory.wf s.pix → (∀ d, i ≠ .wrPixFill d) → (∀ d, i ≠ .reset d) → ∀ j,
      ((∀ d, i ≠ .wrPixData d) ∨ j ≠ s.pixIndex.toNat ∨ s.ledCount ≤ s.pixIndex) →
        pixRead t j = pixRead s j) ∧
    (∀ d, i = .wrPixFill d → ∀ j, s.ledCount.toNat ≤ j → pixRead t j = pixRead s j) ∧
    (∀ d, i = .reset d → ∀ j, s.params.maxLeds.toNat ≤ j → pixRead t j = pixRead s j) ∧
    ((encode i).getLsbD 38 = true → t.q = s.q)
end

