-- ==== Sys2Proof/Laws/Decode.lean ====
section
/-! SUPPORT. The fields of a written word, and the decoder on the words of `rdTxn` and `wrTxn`. -/

namespace Sys2Proof

@[simp] theorem txnWe_wrTxn (a : BitVec 6) (d : Word) : txnWe (wrTxn a d) = true := by
  simp only [txnWe, wrTxn, BitVec.getLsbD_append]
  rfl

@[simp] theorem txnAddr_wrTxn (a : BitVec 6) (d : Word) : txnAddr (wrTxn a d) = a := by
  apply BitVec.eq_of_getLsbD_eq
  intro i hi
  simp only [txnAddr, wrTxn, BitVec.getLsbD_extractLsb', BitVec.getLsbD_append]
  simp [hi, show ¬ (32 + i < 32) by omega]

@[simp] theorem txnData_wrTxn (a : BitVec 6) (d : Word) : txnData (wrTxn a d) = d := by
  apply BitVec.eq_of_getLsbD_eq
  intro i hi
  simp only [txnData, wrTxn, BitVec.getLsbD_extractLsb', BitVec.getLsbD_append]
  simp [hi]

/-- A word is its three fields (30_encoding.md R90). -/
theorem txn_fields (T : Txn) : T = BitVec.ofBool (txnWe T) ++ txnAddr T ++ txnData T := by
  apply BitVec.eq_of_getLsbD_eq
  intro i hi
  simp only [txnWe, txnAddr, txnData, BitVec.getLsbD_extractLsb', BitVec.getLsbD_append]
  by_cases h1 : i < 32
  · simp [h1]
  · by_cases h2 : i - 32 < 6
    · simp [h1, h2, show 32 + (i - 32) = i by omega]
    · have : i = 38 := by omega
      subst this; simp

/-- A read's word has WE = 0, a write's WE = 1 (30_encoding.md R90). -/
theorem we_rdTxn (a : BitVec 6) : (rdTxn a).getLsbD 38 = false := by revert a; decide

theorem we_wrTxn (a : BitVec 6) (d : Word) : (wrTxn a d).getLsbD 38 = true := txnWe_wrTxn a d

theorem decode_rdTxn (a : BitVec 6) : decode (rdTxn a) = decodeRead a := by
  revert a; decide

theorem decode_wrTxn (a : BitVec 6) (d : Word) : decode (wrTxn a d) = decodeWrite a d := by
  simp [decode]

/-- A read's word is `rdTxn` of its address, but for D, which the decoder ignores. -/
theorem decode_of_read {T : Txn} (h : T.getLsbD 38 = false) : decode T = decodeRead (txnAddr T) := by
  rw [decode, txnWe, h]; rfl

theorem decode_of_write {T : Txn} (h : T.getLsbD 38 = true) :
    decode T = decodeWrite (txnAddr T) (txnData T) := by
  rw [decode, txnWe, h]; rfl

/-- The write row of every address, as a conjunction over the 64 addresses' ranges. -/
theorem decodeWrite_reserved (a : BitVec 6) (d : Word) :
    (inRange a 0x12 0x13 = true → decodeWrite a d = .wrRsv12 a d) ∧
    (inRange a 0x14 0x17 = true → decodeWrite a d = .wrRsv14 a d) ∧
    (inRange a 0x18 0x1f = true → decodeWrite a d = .wrRsv18 a d) ∧
    (inRange a 0x20 0x3f = true → decodeWrite a d = .wrRsv20 a d) := by
  fin_cases a <;>
    refine ⟨?_, ?_, ?_, ?_⟩ <;> intro h <;> first | rfl | exact absurd h (by decide)

theorem decodeRead_reserved (a : BitVec 6) :
    (inRange a 0x12 0x13 = true → decodeRead a = .rdRsv12 a) ∧
    (inRange a 0x14 0x17 = true → decodeRead a = .rdRsv14 a) ∧
    (inRange a 0x18 0x1f = true → decodeRead a = .rdRsv18 a) ∧
    (inRange a 0x20 0x3f = true → decodeRead a = .rdRsv20 a) := by
  revert a; decide

/-- What a write to CMD decodes to, by its code. -/
theorem decodeCmd_cases (d : Word) :
    (cmdCode d = 0 ∧ decodeCmd d = .nop d) ∨ (cmdCode d = 1 ∧ decodeCmd d = .tick d) ∨
    (cmdCode d = 2 ∧ decodeCmd d = .reset d) ∨ (cmdCode d = 3 ∧ decodeCmd d = .splash d) ∨
    ((cmdCode d).extractLsb' 2 2 = 0b01#2 ∧ decodeCmd d = .cmdRsv4 d) ∨
    ((cmdCode d).getLsbD 3 = true ∧ decodeCmd d = .cmdRsv8 d) := by
  have hlow : ∀ c : BitVec 4, c ≠ 0 → c ≠ 1 → c ≠ 2 → c ≠ 3 → c.getLsbD 3 = false →
      c.extractLsb' 2 2 = 0b01#2 := by decide
  unfold decodeCmd
  split
  · next h => exact .inl ⟨h, rfl⟩
  · next h => exact .inr (.inl ⟨h, rfl⟩)
  · next h => exact .inr (.inr (.inl ⟨h, rfl⟩))
  · next h => exact .inr (.inr (.inr (.inl ⟨h, rfl⟩)))
  · next h0 h1 h2 h3 =>
    cases h : (cmdCode d).getLsbD 3 with
    | true => exact .inr (.inr (.inr (.inr (.inr ⟨rfl, rfl⟩))))
    | false => exact .inr (.inr (.inr (.inr (.inl ⟨hlow _ h0 h1 h2 h3 h, rfl⟩))))

end Sys2Proof
end

