-- ==== Sys2Proof/Laws/Memory.lean ====
section
/-! SUPPORT. The laws of the sparse memory: what each operation makes a read return, and that each keeps the
canonical form. Provers cite these and do not unfold the operations. -/

namespace Sys2Proof.Memory

variable {w : Nat}

@[simp] theorem read_nil (a : Nat) : read ([] : Memory w) a = 0#w := rfl

@[simp] theorem read_cons (b : Nat) (u : BitVec w) (m : Memory w) (a : Nat) :
    read ((b, u) :: m) a = if a = b then u else read m a := rfl

/-- An index that no entry lists reads 0. -/
theorem read_of_not_listed {m : Memory w} {a : Nat} (h : ∀ c ∈ m, c.1 ≠ a) : read m a = 0#w := by
  induction m with
  | nil => rfl
  | cons c m ih =>
    obtain ⟨b, u⟩ := c
    have hb : a ≠ b := fun e => h (b, u) (by simp) e.symm
    simp [hb, ih fun c hc => h c (by simp [hc])]

/-- A listed entry of a memory in canonical form is what its index reads as. -/
theorem read_of_mem {m : Memory w} (h : wf m) {a : Nat} {v : BitVec w} (hm : (a, v) ∈ m) :
    read m a = v := by
  induction m with
  | nil => simp at hm
  | cons c m ih =>
    obtain ⟨b, u⟩ := c
    obtain ⟨hp, hz⟩ := h
    rw [List.pairwise_cons] at hp
    rcases List.mem_cons.mp hm with e | hm'
    · obtain ⟨rfl, rfl⟩ := Prod.mk.inj e; simp
    · have hlt := hp.1 _ hm'
      have hne : a ≠ b := by simp at hlt; omega
      simp [hne, ih ⟨hp.2, fun c hc => hz c (by simp [hc])⟩ hm']

theorem read_put (a : Nat) (v : BitVec w) (m : Memory w) (b : Nat)
    (h : v = 0#w → read m a = 0#w) : read (put a v m) b = if b = a then v else read m b := by
  unfold put
  split
  · next hv => subst hv; split <;> simp_all
  · simp

theorem wf_tail {c : Nat × BitVec w} {m : Memory w} (h : wf (c :: m)) : wf m :=
  ⟨(List.pairwise_cons.mp h.1).2, fun d hd => h.2 d (by simp [hd])⟩

theorem wf_put {a : Nat} {v : BitVec w} {m : Memory w} (h : wf m) (ha : ∀ c ∈ m, a < c.1) :
    wf (put a v m) := by
  unfold put
  split
  · exact h
  · next hv =>
    exact ⟨List.pairwise_cons.mpr ⟨fun c hc => ha c hc, h.1⟩, by
      rintro c hc
      rcases List.mem_cons.mp hc with rfl | hc
      · exact hv
      · exact h.2 c hc⟩

theorem mem_put {a : Nat} {v : BitVec w} {m : Memory w} {c : Nat × BitVec w}
    (hc : c ∈ put a v m) : c = (a, v) ∨ c ∈ m := by
  unfold put at hc
  split at hc
  · exact .inr hc
  · exact List.mem_cons.mp hc

/-- A write lists nothing but its own entry and entries that were there. -/
theorem mem_write {m : Memory w} {a : Nat} {v : BitVec w} {c : Nat × BitVec w}
    (hc : c ∈ write m a v) : c = (a, v) ∨ c ∈ m := by
  induction m with
  | nil => simpa using mem_put hc
  | cons d m ih =>
    obtain ⟨b, u⟩ := d
    unfold write at hc
    split at hc
    · exact mem_put hc
    · split at hc
      · rcases mem_put hc with h | h
        · exact .inl h
        · exact .inr (by simp [h])
      · rcases List.mem_cons.mp hc with h | h
        · exact .inr (by simp [h])
        · rcases ih h with h | h
          · exact .inl h
          · exact .inr (by simp [h])

/-- A write keeps the canonical form. -/
theorem wf_write {m : Memory w} (h : wf m) (a : Nat) (v : BitVec w) : wf (write m a v) := by
  induction m with
  | nil => exact wf_put h (by simp)
  | cons d m ih =>
    obtain ⟨b, u⟩ := d
    have hp := List.pairwise_cons.mp h.1
    unfold write
    split
    · next hab =>
      refine wf_put h fun c hc => ?_
      rcases List.mem_cons.mp hc with rfl | hc
      · exact hab
      · exact lt_trans hab (hp.1 c hc)
    · split
      · next hab => exact wf_put (wf_tail h) fun c hc => by subst hab; exact hp.1 c hc
      · refine ⟨List.pairwise_cons.mpr ⟨fun c hc => ?_, (ih (wf_tail h)).1⟩, fun c hc => ?_⟩
        · rcases mem_write hc with rfl | hc
          · simp; omega
          · exact hp.1 c hc
        · rcases List.mem_cons.mp hc with rfl | hc
          · exact h.2 _ (by simp)
          · exact (ih (wf_tail h)).2 c hc

/-- A read after a write: the value at the written index, every other index as before. -/
theorem read_write {m : Memory w} (h : wf m) (a : Nat) (v : BitVec w) (b : Nat) :
    read (write m a v) b = if b = a then v else read m b := by
  induction m with
  | nil => exact read_put a v [] b (by simp)
  | cons d m ih =>
    obtain ⟨c, u⟩ := d
    have hp := List.pairwise_cons.mp h.1
    unfold write
    split
    · next hac =>
      refine read_put a v _ b fun _ => read_of_not_listed fun e he => ?_
      rcases List.mem_cons.mp he with rfl | he
      · simp; omega
      · have := hp.1 e he; simp at this; omega
    · split
      · next hac =>
        subst hac
        rw [read_put a v m b fun _ => read_of_not_listed fun e he => by
          have := hp.1 e he; simp at this; omega]
        by_cases hb : b = a <;> simp [hb]
      · next h1 h2 =>
        rw [read_cons, ih (wf_tail h), read_cons]
        by_cases hb : b = c
        · subst hb; simp [show b ≠ a by omega]
        · simp [hb]

theorem wf_clearBelow {m : Memory w} (h : wf m) (n : Nat) : wf (clearBelow n m) :=
  ⟨h.1.filter _, fun c hc => h.2 c (List.mem_filter.mp hc).1⟩

theorem mem_clearBelow {m : Memory w} {n : Nat} {c : Nat × BitVec w} :
    c ∈ clearBelow n m ↔ c ∈ m ∧ n ≤ c.1 := by
  simp [clearBelow, List.mem_filter]

/-- 0 below n, every index from n on as before. -/
theorem read_clearBelow (n : Nat) (m : Memory w) (a : Nat) :
    read (clearBelow n m) a = if a < n then 0#w else read m a := by
  induction m with
  | nil => simp [clearBelow]
  | cons d m ih =>
    obtain ⟨b, u⟩ := d
    have hc : clearBelow n ((b, u) :: m) =
        if n ≤ b then (b, u) :: clearBelow n m else clearBelow n m := by
      simp [clearBelow, List.filter_cons]
    rw [hc]
    split
    · rw [read_cons, ih, read_cons]
      by_cases hab : a = b
      · subst hab; simp [show ¬ a < n by omega]
      · simp [hab]
    · rw [ih, read_cons]
      by_cases hab : a = b
      · subst hab; simp [show a < n by omega]
      · simp [hab]

theorem wf_fillBelow {m : Memory w} (h : wf m) (n : Nat) (v : BitVec w) : wf (fillBelow n v m) := by
  unfold fillBelow
  split
  · exact wf_clearBelow h n
  · next hv =>
    refine ⟨List.pairwise_append.mpr ⟨?_, (wf_clearBelow h n).1, ?_⟩, ?_⟩
    · exact List.pairwise_map.mpr (by simpa using List.pairwise_lt_range)
    · rintro c hc d hd
      obtain ⟨i, hi, rfl⟩ := List.mem_map.mp hc
      have := (mem_clearBelow.mp hd).2
      simp at hi ⊢; omega
    · rintro c hc
      rcases List.mem_append.mp hc with hc | hc
      · obtain ⟨i, -, rfl⟩ := List.mem_map.mp hc; exact hv
      · exact (wf_clearBelow h n).2 c hc

theorem mem_fillBelow {m : Memory w} {n : Nat} {v : BitVec w} {c : Nat × BitVec w}
    (hc : c ∈ fillBelow n v m) : c.1 < n ∨ c ∈ m := by
  unfold fillBelow at hc
  split at hc
  · exact .inr (mem_clearBelow.mp hc).1
  · rcases List.mem_append.mp hc with hc | hc
    · obtain ⟨i, hi, rfl⟩ := List.mem_map.mp hc; exact .inl (by simpa using hi)
    · exact .inr (mem_clearBelow.mp hc).1

theorem read_append (m m' : Memory w) (a : Nat) :
    read (m ++ m') a = if ∃ c ∈ m, c.1 = a then read m a else read m' a := by
  induction m with
  | nil => simp
  | cons d m ih =>
    obtain ⟨b, u⟩ := d
    by_cases hab : a = b
    · subst hab; simp
    · have : ¬ b = a := fun e => hab e.symm
      simp [hab, this, ih]

/-- `v` below n, every index from n on as before. -/
theorem read_fillBelow (n : Nat) (v : BitVec w) (m : Memory w) (a : Nat) :
    read (fillBelow n v m) a = if a < n then v else read m a := by
  unfold fillBelow
  split
  · next hv => rw [read_clearBelow, hv]
  · rw [read_append, read_clearBelow]
    have hmem : (∃ c ∈ (List.range n).map (fun i => (i, v)), c.1 = a) ↔ a < n := by simp
    have hread : ∀ l : List Nat, a ∈ l → read (l.map fun i => (i, v)) a = v := by
      intro l hl
      induction l with
      | nil => simp at hl
      | cons i l ih =>
        by_cases hai : a = i
        · simp [hai]
        · simp [hai, ih (by simpa [hai] using hl)]
    by_cases ha : a < n
    · simp [ha, hread _ (List.mem_range.mpr ha)]
    · simp [ha]

/-- Equal reads make equal memories: the canonical form is one form. -/
theorem ext_read {m m' : Memory w} (h : wf m) (h' : wf m') (hr : ∀ a, read m a = read m' a) :
    m = m' := by
  have sub : ∀ {m m' : Memory w}, wf m → wf m' → (∀ a, read m a = read m' a) → ∀ c ∈ m, c ∈ m' := by
    intro m m' h h' hr c hc
    by_contra hn
    have hv : read m' c.1 = c.2 := by rw [← hr, read_of_mem h (by exact hc)]
    by_cases hl : ∃ d ∈ m', d.1 = c.1
    · obtain ⟨d, hd, he⟩ := hl
      have := read_of_mem h' (a := d.1) (v := d.2) hd
      rw [he, hv] at this
      exact hn (by rwa [show c = d from Prod.ext he.symm this])
    · rw [read_of_not_listed fun d hd e => hl ⟨d, hd, e⟩] at hv
      exact h.2 c hc hv.symm
  refine List.Perm.eq_of_pairwise (le := fun c c' : Nat × BitVec w => c.1 < c'.1) ?_ h.1 h'.1 ?_
  · intro a b _ _ h1 h2; omega
  · have nd : ∀ {m : Memory w}, wf m → m.Nodup := fun h =>
      h.1.imp fun {a b} hab e => by subst e; omega
    exact (List.perm_ext_iff_of_nodup (nd h) (nd h')).mpr fun c =>
      ⟨sub h h' hr c, sub h' h (fun a => (hr a).symm) c⟩

end Sys2Proof.Memory
end

