-- ==== Sys2Proof/Laws/State.lean ====
section
/-! SUPPORT. One lemma per field per named update of the state, true by rfl, so that no proof unfolds a named
update. -/

namespace Sys2Proof.Machine

variable (s : State)

@[simp] theorem raiseErrRange_ledCount : (raiseErrRange s).ledCount = s.ledCount := rfl
@[simp] theorem raiseErrRange_reverse : (raiseErrRange s).reverse = s.reverse := rfl
@[simp] theorem raiseErrRange_irqEn : (raiseErrRange s).irqEn = s.irqEn := rfl
@[simp] theorem raiseErrRange_dirty : (raiseErrRange s).dirty = s.dirty := rfl
@[simp] theorem raiseErrRange_done : (raiseErrRange s).done = s.done := rfl
@[simp] theorem raiseErrRange_errRange : (raiseErrRange s).errRange = true := rfl
@[simp] theorem raiseErrRange_errCmd : (raiseErrRange s).errCmd = s.errCmd := rfl
@[simp] theorem raiseErrRange_pixIndex : (raiseErrRange s).pixIndex = s.pixIndex := rfl
@[simp] theorem raiseErrRange_frameIndex : (raiseErrRange s).frameIndex = s.frameIndex := rfl
@[simp] theorem raiseErrRange_encIn : (raiseErrRange s).encIn = s.encIn := rfl
@[simp] theorem raiseErrRange_ovColorStg : (raiseErrRange s).ovColorStg = s.ovColorStg := rfl
@[simp] theorem raiseErrRange_ovCountStg : (raiseErrRange s).ovCountStg = s.ovCountStg := rfl
@[simp] theorem raiseErrRange_ovDurStg : (raiseErrRange s).ovDurStg = s.ovDurStg := rfl
@[simp] theorem raiseErrRange_ovActive : (raiseErrRange s).ovActive = s.ovActive := rfl
@[simp] theorem raiseErrRange_ovColor : (raiseErrRange s).ovColor = s.ovColor := rfl
@[simp] theorem raiseErrRange_ovCount : (raiseErrRange s).ovCount = s.ovCount := rfl
@[simp] theorem raiseErrRange_ovDur : (raiseErrRange s).ovDur = s.ovDur := rfl
@[simp] theorem raiseErrRange_ovStart : (raiseErrRange s).ovStart = s.ovStart := rfl
@[simp] theorem raiseErrRange_txActive : (raiseErrRange s).txActive = s.txActive := rfl
@[simp] theorem raiseErrRange_txLen : (raiseErrRange s).txLen = s.txLen := rfl
@[simp] theorem raiseErrRange_txCount : (raiseErrRange s).txCount = s.txCount := rfl
@[simp] theorem raiseErrRange_txByte : (raiseErrRange s).txByte = s.txByte := rfl
@[simp] theorem raiseErrRange_txBit : (raiseErrRange s).txBit = s.txBit := rfl
@[simp] theorem raiseErrRange_pix : (raiseErrRange s).pix = s.pix := rfl
@[simp] theorem raiseErrRange_frame : (raiseErrRange s).frame = s.frame := rfl
@[simp] theorem raiseErrRange_q : (raiseErrRange s).q = s.q := rfl
@[simp] theorem raiseErrRange_trace : (raiseErrRange s).trace = s.trace := rfl
@[simp] theorem raiseErrRange_nowUs : (raiseErrRange s).nowUs = s.nowUs := rfl
@[simp] theorem raiseErrRange_port : (raiseErrRange s).port = s.port := rfl
@[simp] theorem raiseErrRange_agenda : (raiseErrRange s).agenda = s.agenda := rfl
@[simp] theorem raiseErrRange_params : (raiseErrRange s).params = s.params := rfl

@[simp] theorem raiseErrCmd_ledCount : (raiseErrCmd s).ledCount = s.ledCount := rfl
@[simp] theorem raiseErrCmd_reverse : (raiseErrCmd s).reverse = s.reverse := rfl
@[simp] theorem raiseErrCmd_irqEn : (raiseErrCmd s).irqEn = s.irqEn := rfl
@[simp] theorem raiseErrCmd_dirty : (raiseErrCmd s).dirty = s.dirty := rfl
@[simp] theorem raiseErrCmd_done : (raiseErrCmd s).done = s.done := rfl
@[simp] theorem raiseErrCmd_errRange : (raiseErrCmd s).errRange = s.errRange := rfl
@[simp] theorem raiseErrCmd_errCmd : (raiseErrCmd s).errCmd = true := rfl
@[simp] theorem raiseErrCmd_pixIndex : (raiseErrCmd s).pixIndex = s.pixIndex := rfl
@[simp] theorem raiseErrCmd_frameIndex : (raiseErrCmd s).frameIndex = s.frameIndex := rfl
@[simp] theorem raiseErrCmd_encIn : (raiseErrCmd s).encIn = s.encIn := rfl
@[simp] theorem raiseErrCmd_ovColorStg : (raiseErrCmd s).ovColorStg = s.ovColorStg := rfl
@[simp] theorem raiseErrCmd_ovCountStg : (raiseErrCmd s).ovCountStg = s.ovCountStg := rfl
@[simp] theorem raiseErrCmd_ovDurStg : (raiseErrCmd s).ovDurStg = s.ovDurStg := rfl
@[simp] theorem raiseErrCmd_ovActive : (raiseErrCmd s).ovActive = s.ovActive := rfl
@[simp] theorem raiseErrCmd_ovColor : (raiseErrCmd s).ovColor = s.ovColor := rfl
@[simp] theorem raiseErrCmd_ovCount : (raiseErrCmd s).ovCount = s.ovCount := rfl
@[simp] theorem raiseErrCmd_ovDur : (raiseErrCmd s).ovDur = s.ovDur := rfl
@[simp] theorem raiseErrCmd_ovStart : (raiseErrCmd s).ovStart = s.ovStart := rfl
@[simp] theorem raiseErrCmd_txActive : (raiseErrCmd s).txActive = s.txActive := rfl
@[simp] theorem raiseErrCmd_txLen : (raiseErrCmd s).txLen = s.txLen := rfl
@[simp] theorem raiseErrCmd_txCount : (raiseErrCmd s).txCount = s.txCount := rfl
@[simp] theorem raiseErrCmd_txByte : (raiseErrCmd s).txByte = s.txByte := rfl
@[simp] theorem raiseErrCmd_txBit : (raiseErrCmd s).txBit = s.txBit := rfl
@[simp] theorem raiseErrCmd_pix : (raiseErrCmd s).pix = s.pix := rfl
@[simp] theorem raiseErrCmd_frame : (raiseErrCmd s).frame = s.frame := rfl
@[simp] theorem raiseErrCmd_q : (raiseErrCmd s).q = s.q := rfl
@[simp] theorem raiseErrCmd_trace : (raiseErrCmd s).trace = s.trace := rfl
@[simp] theorem raiseErrCmd_nowUs : (raiseErrCmd s).nowUs = s.nowUs := rfl
@[simp] theorem raiseErrCmd_port : (raiseErrCmd s).port = s.port := rfl
@[simp] theorem raiseErrCmd_agenda : (raiseErrCmd s).agenda = s.agenda := rfl
@[simp] theorem raiseErrCmd_params : (raiseErrCmd s).params = s.params := rfl

@[simp] theorem markDirty_ledCount : (markDirty s).ledCount = s.ledCount := rfl
@[simp] theorem markDirty_reverse : (markDirty s).reverse = s.reverse := rfl
@[simp] theorem markDirty_irqEn : (markDirty s).irqEn = s.irqEn := rfl
@[simp] theorem markDirty_dirty : (markDirty s).dirty = true := rfl
@[simp] theorem markDirty_done : (markDirty s).done = s.done := rfl
@[simp] theorem markDirty_errRange : (markDirty s).errRange = s.errRange := rfl
@[simp] theorem markDirty_errCmd : (markDirty s).errCmd = s.errCmd := rfl
@[simp] theorem markDirty_pixIndex : (markDirty s).pixIndex = s.pixIndex := rfl
@[simp] theorem markDirty_frameIndex : (markDirty s).frameIndex = s.frameIndex := rfl
@[simp] theorem markDirty_encIn : (markDirty s).encIn = s.encIn := rfl
@[simp] theorem markDirty_ovColorStg : (markDirty s).ovColorStg = s.ovColorStg := rfl
@[simp] theorem markDirty_ovCountStg : (markDirty s).ovCountStg = s.ovCountStg := rfl
@[simp] theorem markDirty_ovDurStg : (markDirty s).ovDurStg = s.ovDurStg := rfl
@[simp] theorem markDirty_ovActive : (markDirty s).ovActive = s.ovActive := rfl
@[simp] theorem markDirty_ovColor : (markDirty s).ovColor = s.ovColor := rfl
@[simp] theorem markDirty_ovCount : (markDirty s).ovCount = s.ovCount := rfl
@[simp] theorem markDirty_ovDur : (markDirty s).ovDur = s.ovDur := rfl
@[simp] theorem markDirty_ovStart : (markDirty s).ovStart = s.ovStart := rfl
@[simp] theorem markDirty_txActive : (markDirty s).txActive = s.txActive := rfl
@[simp] theorem markDirty_txLen : (markDirty s).txLen = s.txLen := rfl
@[simp] theorem markDirty_txCount : (markDirty s).txCount = s.txCount := rfl
@[simp] theorem markDirty_txByte : (markDirty s).txByte = s.txByte := rfl
@[simp] theorem markDirty_txBit : (markDirty s).txBit = s.txBit := rfl
@[simp] theorem markDirty_pix : (markDirty s).pix = s.pix := rfl
@[simp] theorem markDirty_frame : (markDirty s).frame = s.frame := rfl
@[simp] theorem markDirty_q : (markDirty s).q = s.q := rfl
@[simp] theorem markDirty_trace : (markDirty s).trace = s.trace := rfl
@[simp] theorem markDirty_nowUs : (markDirty s).nowUs = s.nowUs := rfl
@[simp] theorem markDirty_port : (markDirty s).port = s.port := rfl
@[simp] theorem markDirty_agenda : (markDirty s).agenda = s.agenda := rfl
@[simp] theorem markDirty_params : (markDirty s).params = s.params := rfl

@[simp] theorem pixWrite_ledCount (i : Nat) (v : Rgb) : (pixWrite i v s).ledCount = s.ledCount := rfl
@[simp] theorem pixWrite_reverse (i : Nat) (v : Rgb) : (pixWrite i v s).reverse = s.reverse := rfl
@[simp] theorem pixWrite_irqEn (i : Nat) (v : Rgb) : (pixWrite i v s).irqEn = s.irqEn := rfl
@[simp] theorem pixWrite_dirty (i : Nat) (v : Rgb) : (pixWrite i v s).dirty = s.dirty := rfl
@[simp] theorem pixWrite_done (i : Nat) (v : Rgb) : (pixWrite i v s).done = s.done := rfl
@[simp] theorem pixWrite_errRange (i : Nat) (v : Rgb) : (pixWrite i v s).errRange = s.errRange := rfl
@[simp] theorem pixWrite_errCmd (i : Nat) (v : Rgb) : (pixWrite i v s).errCmd = s.errCmd := rfl
@[simp] theorem pixWrite_pixIndex (i : Nat) (v : Rgb) : (pixWrite i v s).pixIndex = s.pixIndex := rfl
@[simp] theorem pixWrite_frameIndex (i : Nat) (v : Rgb) : (pixWrite i v s).frameIndex = s.frameIndex := rfl
@[simp] theorem pixWrite_encIn (i : Nat) (v : Rgb) : (pixWrite i v s).encIn = s.encIn := rfl
@[simp] theorem pixWrite_ovColorStg (i : Nat) (v : Rgb) : (pixWrite i v s).ovColorStg = s.ovColorStg := rfl
@[simp] theorem pixWrite_ovCountStg (i : Nat) (v : Rgb) : (pixWrite i v s).ovCountStg = s.ovCountStg := rfl
@[simp] theorem pixWrite_ovDurStg (i : Nat) (v : Rgb) : (pixWrite i v s).ovDurStg = s.ovDurStg := rfl
@[simp] theorem pixWrite_ovActive (i : Nat) (v : Rgb) : (pixWrite i v s).ovActive = s.ovActive := rfl
@[simp] theorem pixWrite_ovColor (i : Nat) (v : Rgb) : (pixWrite i v s).ovColor = s.ovColor := rfl
@[simp] theorem pixWrite_ovCount (i : Nat) (v : Rgb) : (pixWrite i v s).ovCount = s.ovCount := rfl
@[simp] theorem pixWrite_ovDur (i : Nat) (v : Rgb) : (pixWrite i v s).ovDur = s.ovDur := rfl
@[simp] theorem pixWrite_ovStart (i : Nat) (v : Rgb) : (pixWrite i v s).ovStart = s.ovStart := rfl
@[simp] theorem pixWrite_txActive (i : Nat) (v : Rgb) : (pixWrite i v s).txActive = s.txActive := rfl
@[simp] theorem pixWrite_txLen (i : Nat) (v : Rgb) : (pixWrite i v s).txLen = s.txLen := rfl
@[simp] theorem pixWrite_txCount (i : Nat) (v : Rgb) : (pixWrite i v s).txCount = s.txCount := rfl
@[simp] theorem pixWrite_txByte (i : Nat) (v : Rgb) : (pixWrite i v s).txByte = s.txByte := rfl
@[simp] theorem pixWrite_txBit (i : Nat) (v : Rgb) : (pixWrite i v s).txBit = s.txBit := rfl
@[simp] theorem pixWrite_pix (i : Nat) (v : Rgb) : (pixWrite i v s).pix = Memory.write s.pix i v := rfl
@[simp] theorem pixWrite_frame (i : Nat) (v : Rgb) : (pixWrite i v s).frame = s.frame := rfl
@[simp] theorem pixWrite_q (i : Nat) (v : Rgb) : (pixWrite i v s).q = s.q := rfl
@[simp] theorem pixWrite_trace (i : Nat) (v : Rgb) : (pixWrite i v s).trace = s.trace := rfl
@[simp] theorem pixWrite_nowUs (i : Nat) (v : Rgb) : (pixWrite i v s).nowUs = s.nowUs := rfl
@[simp] theorem pixWrite_port (i : Nat) (v : Rgb) : (pixWrite i v s).port = s.port := rfl
@[simp] theorem pixWrite_agenda (i : Nat) (v : Rgb) : (pixWrite i v s).agenda = s.agenda := rfl
@[simp] theorem pixWrite_params (i : Nat) (v : Rgb) : (pixWrite i v s).params = s.params := rfl

@[simp] theorem render_ledCount : (render s).ledCount = s.ledCount := rfl
@[simp] theorem render_reverse : (render s).reverse = s.reverse := rfl
@[simp] theorem render_irqEn : (render s).irqEn = s.irqEn := rfl
@[simp] theorem render_dirty : (render s).dirty = s.dirty := rfl
@[simp] theorem render_done : (render s).done = s.done := rfl
@[simp] theorem render_errRange : (render s).errRange = s.errRange := rfl
@[simp] theorem render_errCmd : (render s).errCmd = s.errCmd := rfl
@[simp] theorem render_pixIndex : (render s).pixIndex = s.pixIndex := rfl
@[simp] theorem render_frameIndex : (render s).frameIndex = s.frameIndex := rfl
@[simp] theorem render_encIn : (render s).encIn = s.encIn := rfl
@[simp] theorem render_ovColorStg : (render s).ovColorStg = s.ovColorStg := rfl
@[simp] theorem render_ovCountStg : (render s).ovCountStg = s.ovCountStg := rfl
@[simp] theorem render_ovDurStg : (render s).ovDurStg = s.ovDurStg := rfl
@[simp] theorem render_ovActive : (render s).ovActive = s.ovActive := rfl
@[simp] theorem render_ovColor : (render s).ovColor = s.ovColor := rfl
@[simp] theorem render_ovCount : (render s).ovCount = s.ovCount := rfl
@[simp] theorem render_ovDur : (render s).ovDur = s.ovDur := rfl
@[simp] theorem render_ovStart : (render s).ovStart = s.ovStart := rfl
@[simp] theorem render_txActive : (render s).txActive = s.txActive := rfl
@[simp] theorem render_txLen : (render s).txLen = s.txLen := rfl
@[simp] theorem render_txCount : (render s).txCount = s.txCount := rfl
@[simp] theorem render_txByte : (render s).txByte = s.txByte := rfl
@[simp] theorem render_txBit : (render s).txBit = s.txBit := rfl
@[simp] theorem render_pix : (render s).pix = s.pix := rfl
@[simp] theorem render_frame : (render s).frame = renderedFrame s := rfl
@[simp] theorem render_q : (render s).q = s.q := rfl
@[simp] theorem render_trace : (render s).trace = s.trace := rfl
@[simp] theorem render_nowUs : (render s).nowUs = s.nowUs := rfl
@[simp] theorem render_port : (render s).port = s.port := rfl
@[simp] theorem render_agenda : (render s).agenda = s.agenda := rfl
@[simp] theorem render_params : (render s).params = s.params := rfl

@[simp] theorem complete_ledCount : (complete s).ledCount = s.ledCount := rfl
@[simp] theorem complete_reverse : (complete s).reverse = s.reverse := rfl
@[simp] theorem complete_irqEn : (complete s).irqEn = s.irqEn := rfl
@[simp] theorem complete_dirty : (complete s).dirty = s.dirty := rfl
@[simp] theorem complete_done : (complete s).done = true := rfl
@[simp] theorem complete_errRange : (complete s).errRange = s.errRange := rfl
@[simp] theorem complete_errCmd : (complete s).errCmd = s.errCmd := rfl
@[simp] theorem complete_pixIndex : (complete s).pixIndex = s.pixIndex := rfl
@[simp] theorem complete_frameIndex : (complete s).frameIndex = s.frameIndex := rfl
@[simp] theorem complete_encIn : (complete s).encIn = s.encIn := rfl
@[simp] theorem complete_ovColorStg : (complete s).ovColorStg = s.ovColorStg := rfl
@[simp] theorem complete_ovCountStg : (complete s).ovCountStg = s.ovCountStg := rfl
@[simp] theorem complete_ovDurStg : (complete s).ovDurStg = s.ovDurStg := rfl
@[simp] theorem complete_ovActive : (complete s).ovActive = s.ovActive := rfl
@[simp] theorem complete_ovColor : (complete s).ovColor = s.ovColor := rfl
@[simp] theorem complete_ovCount : (complete s).ovCount = s.ovCount := rfl
@[simp] theorem complete_ovDur : (complete s).ovDur = s.ovDur := rfl
@[simp] theorem complete_ovStart : (complete s).ovStart = s.ovStart := rfl
@[simp] theorem complete_txActive : (complete s).txActive = false := rfl
@[simp] theorem complete_txLen : (complete s).txLen = 0 := rfl
@[simp] theorem complete_txCount : (complete s).txCount = 0 := rfl
@[simp] theorem complete_txByte : (complete s).txByte = 0 := rfl
@[simp] theorem complete_txBit : (complete s).txBit = 7 := rfl
@[simp] theorem complete_pix : (complete s).pix = s.pix := rfl
@[simp] theorem complete_frame : (complete s).frame = s.frame := rfl
@[simp] theorem complete_q : (complete s).q = s.q := rfl
@[simp] theorem complete_trace : (complete s).trace = s.trace := rfl
@[simp] theorem complete_nowUs : (complete s).nowUs = s.nowUs := rfl
@[simp] theorem complete_port : (complete s).port = s.port := rfl
@[simp] theorem complete_agenda : (complete s).agenda = s.agenda := rfl
@[simp] theorem complete_params : (complete s).params = s.params := rfl

@[simp] theorem emit_ledCount (c : Bool) : (emit c s).ledCount = s.ledCount := rfl
@[simp] theorem emit_reverse (c : Bool) : (emit c s).reverse = s.reverse := rfl
@[simp] theorem emit_irqEn (c : Bool) : (emit c s).irqEn = s.irqEn := rfl
@[simp] theorem emit_dirty (c : Bool) : (emit c s).dirty = s.dirty := rfl
@[simp] theorem emit_done (c : Bool) : (emit c s).done = s.done := rfl
@[simp] theorem emit_errRange (c : Bool) : (emit c s).errRange = s.errRange := rfl
@[simp] theorem emit_errCmd (c : Bool) : (emit c s).errCmd = s.errCmd := rfl
@[simp] theorem emit_pixIndex (c : Bool) : (emit c s).pixIndex = s.pixIndex := rfl
@[simp] theorem emit_frameIndex (c : Bool) : (emit c s).frameIndex = s.frameIndex := rfl
@[simp] theorem emit_encIn (c : Bool) : (emit c s).encIn = s.encIn := rfl
@[simp] theorem emit_ovColorStg (c : Bool) : (emit c s).ovColorStg = s.ovColorStg := rfl
@[simp] theorem emit_ovCountStg (c : Bool) : (emit c s).ovCountStg = s.ovCountStg := rfl
@[simp] theorem emit_ovDurStg (c : Bool) : (emit c s).ovDurStg = s.ovDurStg := rfl
@[simp] theorem emit_ovActive (c : Bool) : (emit c s).ovActive = s.ovActive := rfl
@[simp] theorem emit_ovColor (c : Bool) : (emit c s).ovColor = s.ovColor := rfl
@[simp] theorem emit_ovCount (c : Bool) : (emit c s).ovCount = s.ovCount := rfl
@[simp] theorem emit_ovDur (c : Bool) : (emit c s).ovDur = s.ovDur := rfl
@[simp] theorem emit_ovStart (c : Bool) : (emit c s).ovStart = s.ovStart := rfl
@[simp] theorem emit_txActive (c : Bool) : (emit c s).txActive = s.txActive := rfl
@[simp] theorem emit_txLen (c : Bool) : (emit c s).txLen = s.txLen := rfl
@[simp] theorem emit_txCount (c : Bool) : (emit c s).txCount = s.txCount := rfl
@[simp] theorem emit_txByte (c : Bool) : (emit c s).txByte = s.txByte := rfl
@[simp] theorem emit_txBit (c : Bool) : (emit c s).txBit = s.txBit := rfl
@[simp] theorem emit_pix (c : Bool) : (emit c s).pix = s.pix := rfl
@[simp] theorem emit_frame (c : Bool) : (emit c s).frame = s.frame := rfl
@[simp] theorem emit_q (c : Bool) : (emit c s).q = s.q := rfl
@[simp] theorem emit_trace (c : Bool) : (emit c s).trace = s.trace ++ [c] := rfl
@[simp] theorem emit_nowUs (c : Bool) : (emit c s).nowUs = s.nowUs := rfl
@[simp] theorem emit_port (c : Bool) : (emit c s).port = s.port := rfl
@[simp] theorem emit_agenda (c : Bool) : (emit c s).agenda = s.agenda := rfl
@[simp] theorem emit_params (c : Bool) : (emit c s).params = s.params := rfl

@[simp] theorem accept_ledCount : (accept s).ledCount = s.ledCount := rfl
@[simp] theorem accept_reverse : (accept s).reverse = s.reverse := rfl
@[simp] theorem accept_irqEn : (accept s).irqEn = s.irqEn := rfl
@[simp] theorem accept_dirty : (accept s).dirty = s.dirty := rfl
@[simp] theorem accept_done : (accept s).done = s.done := rfl
@[simp] theorem accept_errRange : (accept s).errRange = s.errRange := rfl
@[simp] theorem accept_errCmd : (accept s).errCmd = s.errCmd := rfl
@[simp] theorem accept_pixIndex : (accept s).pixIndex = s.pixIndex := rfl
@[simp] theorem accept_frameIndex : (accept s).frameIndex = s.frameIndex := rfl
@[simp] theorem accept_encIn : (accept s).encIn = s.encIn := rfl
@[simp] theorem accept_ovColorStg : (accept s).ovColorStg = s.ovColorStg := rfl
@[simp] theorem accept_ovCountStg : (accept s).ovCountStg = s.ovCountStg := rfl
@[simp] theorem accept_ovDurStg : (accept s).ovDurStg = s.ovDurStg := rfl
@[simp] theorem accept_ovActive : (accept s).ovActive = s.ovActive := rfl
@[simp] theorem accept_ovColor : (accept s).ovColor = s.ovColor := rfl
@[simp] theorem accept_ovCount : (accept s).ovCount = s.ovCount := rfl
@[simp] theorem accept_ovDur : (accept s).ovDur = s.ovDur := rfl
@[simp] theorem accept_ovStart : (accept s).ovStart = s.ovStart := rfl
@[simp] theorem accept_txActive : (accept s).txActive = s.txActive := rfl
@[simp] theorem accept_txLen : (accept s).txLen = s.txLen := rfl
@[simp] theorem accept_txCount : (accept s).txCount = s.txCount := rfl
@[simp] theorem accept_txByte : (accept s).txByte = s.txByte := rfl
@[simp] theorem accept_txBit : (accept s).txBit = s.txBit := rfl
@[simp] theorem accept_pix : (accept s).pix = s.pix := rfl
@[simp] theorem accept_frame : (accept s).frame = s.frame := rfl
@[simp] theorem accept_q : (accept s).q = s.q := rfl
@[simp] theorem accept_trace : (accept s).trace = s.trace := rfl
@[simp] theorem accept_nowUs : (accept s).nowUs = s.nowUs := rfl
@[simp] theorem accept_port : (accept s).port = s.port.tail := rfl
@[simp] theorem accept_agenda : (accept s).agenda = s.agenda := rfl
@[simp] theorem accept_params : (accept s).params = s.params := rfl

@[simp] theorem startTurn_ledCount : (startTurn s).ledCount = s.ledCount := rfl
@[simp] theorem startTurn_reverse : (startTurn s).reverse = s.reverse := rfl
@[simp] theorem startTurn_irqEn : (startTurn s).irqEn = s.irqEn := rfl
@[simp] theorem startTurn_dirty : (startTurn s).dirty = s.dirty := rfl
@[simp] theorem startTurn_done : (startTurn s).done = s.done := rfl
@[simp] theorem startTurn_errRange : (startTurn s).errRange = s.errRange := rfl
@[simp] theorem startTurn_errCmd : (startTurn s).errCmd = s.errCmd := rfl
@[simp] theorem startTurn_pixIndex : (startTurn s).pixIndex = s.pixIndex := rfl
@[simp] theorem startTurn_frameIndex : (startTurn s).frameIndex = s.frameIndex := rfl
@[simp] theorem startTurn_encIn : (startTurn s).encIn = s.encIn := rfl
@[simp] theorem startTurn_ovColorStg : (startTurn s).ovColorStg = s.ovColorStg := rfl
@[simp] theorem startTurn_ovCountStg : (startTurn s).ovCountStg = s.ovCountStg := rfl
@[simp] theorem startTurn_ovDurStg : (startTurn s).ovDurStg = s.ovDurStg := rfl
@[simp] theorem startTurn_ovActive : (startTurn s).ovActive = s.ovActive := rfl
@[simp] theorem startTurn_ovColor : (startTurn s).ovColor = s.ovColor := rfl
@[simp] theorem startTurn_ovCount : (startTurn s).ovCount = s.ovCount := rfl
@[simp] theorem startTurn_ovDur : (startTurn s).ovDur = s.ovDur := rfl
@[simp] theorem startTurn_ovStart : (startTurn s).ovStart = s.ovStart := rfl
@[simp] theorem startTurn_txActive : (startTurn s).txActive = s.txActive := rfl
@[simp] theorem startTurn_txLen : (startTurn s).txLen = s.txLen := rfl
@[simp] theorem startTurn_txCount : (startTurn s).txCount = s.txCount := rfl
@[simp] theorem startTurn_txByte : (startTurn s).txByte = s.txByte := rfl
@[simp] theorem startTurn_txBit : (startTurn s).txBit = s.txBit := rfl
@[simp] theorem startTurn_pix : (startTurn s).pix = s.pix := rfl
@[simp] theorem startTurn_frame : (startTurn s).frame = s.frame := rfl
@[simp] theorem startTurn_q : (startTurn s).q = none := rfl
@[simp] theorem startTurn_trace : (startTurn s).trace = s.trace := rfl
@[simp] theorem startTurn_nowUs : (startTurn s).nowUs = s.nowUs := rfl
@[simp] theorem startTurn_port : (startTurn s).port = s.port := rfl
@[simp] theorem startTurn_agenda : (startTurn s).agenda = s.agenda.tail := rfl
@[simp] theorem startTurn_params : (startTurn s).params = s.params := rfl

@[simp] theorem presentTime_ledCount (now : Word) : (presentTime now s).ledCount = s.ledCount := rfl
@[simp] theorem presentTime_reverse (now : Word) : (presentTime now s).reverse = s.reverse := rfl
@[simp] theorem presentTime_irqEn (now : Word) : (presentTime now s).irqEn = s.irqEn := rfl
@[simp] theorem presentTime_dirty (now : Word) : (presentTime now s).dirty = s.dirty := rfl
@[simp] theorem presentTime_done (now : Word) : (presentTime now s).done = s.done := rfl
@[simp] theorem presentTime_errRange (now : Word) : (presentTime now s).errRange = s.errRange := rfl
@[simp] theorem presentTime_errCmd (now : Word) : (presentTime now s).errCmd = s.errCmd := rfl
@[simp] theorem presentTime_pixIndex (now : Word) : (presentTime now s).pixIndex = s.pixIndex := rfl
@[simp] theorem presentTime_frameIndex (now : Word) : (presentTime now s).frameIndex = s.frameIndex := rfl
@[simp] theorem presentTime_encIn (now : Word) : (presentTime now s).encIn = s.encIn := rfl
@[simp] theorem presentTime_ovColorStg (now : Word) : (presentTime now s).ovColorStg = s.ovColorStg := rfl
@[simp] theorem presentTime_ovCountStg (now : Word) : (presentTime now s).ovCountStg = s.ovCountStg := rfl
@[simp] theorem presentTime_ovDurStg (now : Word) : (presentTime now s).ovDurStg = s.ovDurStg := rfl
@[simp] theorem presentTime_ovActive (now : Word) : (presentTime now s).ovActive = s.ovActive := rfl
@[simp] theorem presentTime_ovColor (now : Word) : (presentTime now s).ovColor = s.ovColor := rfl
@[simp] theorem presentTime_ovCount (now : Word) : (presentTime now s).ovCount = s.ovCount := rfl
@[simp] theorem presentTime_ovDur (now : Word) : (presentTime now s).ovDur = s.ovDur := rfl
@[simp] theorem presentTime_ovStart (now : Word) : (presentTime now s).ovStart = s.ovStart := rfl
@[simp] theorem presentTime_txActive (now : Word) : (presentTime now s).txActive = s.txActive := rfl
@[simp] theorem presentTime_txLen (now : Word) : (presentTime now s).txLen = s.txLen := rfl
@[simp] theorem presentTime_txCount (now : Word) : (presentTime now s).txCount = s.txCount := rfl
@[simp] theorem presentTime_txByte (now : Word) : (presentTime now s).txByte = s.txByte := rfl
@[simp] theorem presentTime_txBit (now : Word) : (presentTime now s).txBit = s.txBit := rfl
@[simp] theorem presentTime_pix (now : Word) : (presentTime now s).pix = s.pix := rfl
@[simp] theorem presentTime_frame (now : Word) : (presentTime now s).frame = s.frame := rfl
@[simp] theorem presentTime_q (now : Word) : (presentTime now s).q = s.q := rfl
@[simp] theorem presentTime_trace (now : Word) : (presentTime now s).trace = s.trace := rfl
@[simp] theorem presentTime_nowUs (now : Word) : (presentTime now s).nowUs = now := rfl
@[simp] theorem presentTime_port (now : Word) : (presentTime now s).port = s.port := rfl
@[simp] theorem presentTime_agenda (now : Word) : (presentTime now s).agenda = s.agenda := rfl
@[simp] theorem presentTime_params (now : Word) : (presentTime now s).params = s.params := rfl

end Sys2Proof.Machine
end

