-- ==== Sys2Proof/Laws/Ops.lean ====
section
/-! SUPPORT. One lemma for each shared operation that says everything it can do; provers cite these and do
not unfold the operations. -/

namespace Sys2Proof.Machine

@[simp] theorem answer_eq (v : Word) (s : State) : answer v s = .next { s with q := some v } := rfl

@[simp] theorem ignored_eq (s : State) : ignored s = .next s := rfl

@[simp] theorem held_eq (s : State) : held s = .next s := rfl

/-- The expiry step as one record: it touches ov_active and dirty alone. -/
theorem expireOverlay_eq (now : Word) (s : State) :
    expireOverlay now s =
      { s with
        ovActive := s.ovActive && !expired now s
        dirty := s.dirty || expired now s } := by
  unfold expireOverlay
  split
  · next h => simp [h]
  · next h => simp [Bool.eq_false_iff.mpr h]

/-- A frame is shorter than 2^20 bytes (00_scope.md R6), so a 20-bit index reaches every byte. -/
theorem frameLen_lt (p : Params) (n : BitVec 16) : frameLen p n.toNat < 2 ^ 20 := by
  have h1 := p.leadBytes.isLt
  have h2 := p.trailBytes.isLt
  have h3 := n.isLt
  unfold frameLen
  omega

@[simp] theorem frameLen_toNat (p : Params) (n : BitVec 16) :
    (BitVec.ofNat 20 (frameLen p n.toNat)).toNat = frameLen p n.toNat := by
  rw [BitVec.toNat_ofNat, Nat.mod_eq_of_lt (frameLen_lt p n)]

theorem frameLen_mono (p : Params) {n m : Nat} (h : n ≤ m) : frameLen p n ≤ frameLen p m := by
  unfold frameLen; omega

theorem issue_of_pos {s : State} (h : 0 < frameLen s.params s.ledCount.toNat) :
    issue s =
      { s with
        dirty := false
        txActive := true
        txLen := BitVec.ofNat 20 (frameLen s.params s.ledCount.toNat)
        txCount := s.ledCount
        txByte := 0
        txBit := 7 } := by
  simp [issue, h]

theorem issue_of_zero {s : State} (h : frameLen s.params s.ledCount.toNat = 0) :
    issue s = { s with dirty := false, done := true } := by
  simp [issue, h]

/-- The gate: nothing when clean or busy, else render and issue. -/
theorem renderIfDue_cases (s : State) :
    (s.dirty = false ∧ renderIfDue s = s) ∨
    (s.dirty = true ∧ s.txActive = true ∧ renderIfDue s = s) ∨
    (s.dirty = true ∧ s.txActive = false ∧ renderIfDue s = issue (render s)) := by
  unfold renderIfDue
  cases hd : s.dirty <;> cases ht : s.txActive <;> simp

/-- A shifter step: none while idle, the next bit, the next byte, or the end of the transfer. -/
theorem shiftStep_cases (s : State) :
    (s.txActive = false ∧ shiftStep s = s) ∨
    (s.txActive = true ∧ 0 < s.txBit.toNat ∧
      shiftStep s = { s with trace := s.trace ++ [dout s], txBit := s.txBit - 1 }) ∨
    (s.txActive = true ∧ s.txBit.toNat = 0 ∧ s.txByte.toNat + 1 < s.txLen.toNat ∧
      shiftStep s =
        { s with trace := s.trace ++ [dout s], txBit := 7, txByte := s.txByte + 1 }) ∨
    (s.txActive = true ∧ s.txBit.toNat = 0 ∧ s.txLen.toNat ≤ s.txByte.toNat + 1 ∧
      shiftStep s = complete (emit (dout s) s)) := by
  cases ht : s.txActive with
  | false => simp [shiftStep, ht]
  | true =>
    by_cases hb : 0 < s.txBit.toNat
    · simp [shiftStep, ht, advance, hb, emit]
    · by_cases hl : s.txByte.toNat + 1 < s.txLen.toNat
      · have : s.txBit.toNat = 0 := by omega
        simp [shiftStep, ht, advance, hl, emit, this]
      · have h0 : s.txBit.toNat = 0 := by omega
        have : s.txLen.toNat ≤ s.txByte.toNat + 1 := by omega
        simp [shiftStep, ht, advance, hl, h0, this]

/-- What waits: a legal LED_COUNT write or RESET, while a transfer is in flight. -/
theorem waits_iff (i : Instr) (s : State) :
    waits i s = true ↔
      s.txActive = true ∧
        ((∃ d, i = .wrLedCount d ∧ ledCountLegal d s = true) ∨ ∃ d, i = .reset d) := by
  cases i <;> simp [waits]

/-- Waiting depends on the busy condition and the parameters alone. -/
theorem waits_congr (i : Instr) {s s' : State} (ha : s.txActive = s'.txActive)
    (hp : s.params = s'.params) : waits i s = waits i s' := by
  cases i <;> simp [waits, ledCountLegal, ha, hp]

@[simp] theorem waits_startTurn (i : Instr) (s : State) : waits i (startTurn s) = waits i s :=
  waits_congr i rfl rfl

@[simp] theorem presented_startTurn (s : State) : presented (startTurn s) = presented s := rfl

theorem step_host {s : State} (h : nextTurn s = .host) : step s = hostStep (startTurn s) := by
  simp [step, h]

theorem step_shift {s : State} (h : nextTurn s = .shift) :
    step s = .next (shiftStep (startTurn s)) := by
  simp [step, h]

theorem step_time {s : State} {now : Word} (h : nextTurn s = .time now) :
    step s = .next (presentTime now (startTurn s)) := by
  simp [step, h]

theorem step_powerOn {s : State} (h : nextTurn s = .powerOn) :
    step s = .next (powerOnReset (startTurn s)) := by
  simp [step, h]

theorem step_idle {s : State} (h : nextTurn s = .idle) : step s = .next (startTurn s) := by
  simp [step, h]

/-- The host port's step: nothing presented, a held transaction, or the decoded transaction. -/
theorem hostStep_cases (s : State) :
    (presented s = none ∧ hostStep s = .next s) ∨
    (∃ t, presented s = some t ∧ waits (decode t) s = true ∧ hostStep s = .next s) ∨
    (∃ t, presented s = some t ∧ waits (decode t) s = false ∧
      hostStep s = exec (decode t) (accept s)) := by
  unfold hostStep
  cases hp : presented s with
  | none => simp
  | some t => cases hw : waits (decode t) s <;> simp [hw]

/-- What a step can do, by the agent that moves. -/
theorem step_cases {s t : State} (h : step s = .next t) :
    (nextTurn s = .host ∧ hostStep (startTurn s) = .next t) ∨
    (nextTurn s = .shift ∧ t = shiftStep (startTurn s)) ∨
    (∃ now, nextTurn s = .time now ∧ t = presentTime now (startTurn s)) ∨
    (nextTurn s = .powerOn ∧ t = powerOnReset (startTurn s)) ∨
    (nextTurn s = .idle ∧ t = startTurn s) := by
  cases hn : nextTurn s with
  | host => rw [step_host hn] at h; simp [h]
  | shift => rw [step_shift hn] at h; simp_all
  | time now => rw [step_time hn] at h; simp_all
  | powerOn => rw [step_powerOn hn] at h; simp_all
  | idle => rw [step_idle hn] at h; simp_all

end Sys2Proof.Machine
end

