-- ==== Sys2Proof/Laws/Render.lean ====
section
/-! SUPPORT. The frame the render writes: it is in canonical form, and what one LED block writes. -/

namespace Sys2Proof.Machine

theorem wf_writeBlock {m : Memory 8} (h : Memory.wf m) (base : Nat) (e : BitVec 24) :
    Memory.wf (writeBlock base e m) := by
  simp only [writeBlock, List.foldl_cons, List.foldl_nil]
  exact Memory.wf_write (Memory.wf_write (Memory.wf_write h _ _) _ _) _ _

/-- A channel block is its three bytes; every other byte is as before. -/
theorem read_writeBlock {m : Memory 8} (h : Memory.wf m) (base : Nat) (e : BitVec 24) (j : Nat) :
    Memory.read (writeBlock base e m) j =
      if j = base + 2 then blockByte e 2
      else if j = base + 1 then blockByte e 1
      else if j = base then blockByte e 0
      else Memory.read m j := by
  simp only [writeBlock, List.foldl_cons, List.foldl_nil]
  rw [Memory.read_write (Memory.wf_write (Memory.wf_write h _ _) _ _),
    Memory.read_write (Memory.wf_write h _ _), Memory.read_write h]
  simp

theorem mem_writeBlock {m : Memory 8} {base : Nat} {e : BitVec 24} {c : Nat × BitVec 8}
    (hc : c ∈ writeBlock base e m) : (base ≤ c.1 ∧ c.1 < base + 3) ∨ c ∈ m := by
  simp only [writeBlock, List.foldl_cons, List.foldl_nil] at hc
  rcases Memory.mem_write hc with rfl | hc
  · left; simp
  · rcases Memory.mem_write hc with rfl | hc
    · left; simp
    · rcases Memory.mem_write hc with rfl | hc
      · left; simp
      · exact .inr hc

theorem wf_renderLed {m : Memory 8} (h : Memory.wf m) (s : State) (i : Nat) :
    Memory.wf (renderLed s m i) := by
  simp only [renderLed, List.foldl_cons, List.foldl_nil]
  exact wf_writeBlock (wf_writeBlock (wf_writeBlock h _ _) _ _) _ _

/-- An LED block lists entries of its own nine bytes alone. -/
theorem mem_renderLed {m : Memory 8} {s : State} {i : Nat} {c : Nat × BitVec 8}
    (hc : c ∈ renderLed s m i) :
    (s.params.leadBytes.toNat + 9 * slot s i ≤ c.1 ∧
      c.1 < s.params.leadBytes.toNat + 9 * slot s i + 9) ∨ c ∈ m := by
  simp only [renderLed, List.foldl_cons, List.foldl_nil] at hc
  rcases mem_writeBlock hc with h | hc
  · left; simp [blockBase] at h; omega
  · rcases mem_writeBlock hc with h | hc
    · left; simp [blockBase] at h; omega
    · rcases mem_writeBlock hc with h | hc
      · left; simp [blockBase] at h; omega
      · exact .inr hc

theorem wf_foldl_renderLed (s : State) (l : List Nat) {m : Memory 8} (h : Memory.wf m) :
    Memory.wf (l.foldl (renderLed s) m) := by
  induction l generalizing m with
  | nil => exact h
  | cons i l ih => exact ih (wf_renderLed h s i)

/-- The rendered frame is in canonical form. -/
theorem wf_renderedFrame {s : State} (h : Memory.wf s.frame) : Memory.wf (renderedFrame s) :=
  wf_foldl_renderLed s _ (Memory.wf_clearBelow h _)

theorem mem_foldl_renderLed {s : State} {l : List Nat} {m : Memory 8} {c : Nat × BitVec 8}
    (hc : c ∈ l.foldl (renderLed s) m) :
    (∃ i ∈ l, s.params.leadBytes.toNat + 9 * slot s i ≤ c.1 ∧
      c.1 < s.params.leadBytes.toNat + 9 * slot s i + 9) ∨ c ∈ m := by
  induction l generalizing m with
  | nil => exact .inr hc
  | cons i l ih =>
    rcases ih hc with ⟨k, hk, h⟩ | h
    · exact .inl ⟨k, by simp [hk], h⟩
    · rcases mem_renderLed h with h | h
      · exact .inl ⟨i, by simp, h⟩
      · exact .inr h

/-- A slot of the payload is below LED_COUNT. -/
theorem slot_lt {s : State} {i : Nat} (h : i < s.ledCount.toNat) : slot s i < s.ledCount.toNat := by
  unfold slot; split <;> omega

/-- The slot map is its own inverse. -/
theorem slot_slot {s : State} {i : Nat} (h : i < s.ledCount.toNat) : slot s (slot s i) = i := by
  simp only [slot]; split <;> omega

/-- Nine bytes in three blocks of three, by the block and the byte in it. -/
theorem read_nine (b : Nat) (f : Fin 3 → Fin 3 → Byte) (x : Byte) (j : Nat) :
    (if j = b + 3 * 2 + 2 then f 2 2 else if j = b + 3 * 2 + 1 then f 2 1
      else if j = b + 3 * 2 then f 2 0 else if j = b + 3 * 1 + 2 then f 1 2
      else if j = b + 3 * 1 + 1 then f 1 1 else if j = b + 3 * 1 then f 1 0
      else if j = b + 3 * 0 + 2 then f 0 2 else if j = b + 3 * 0 + 1 then f 0 1
      else if j = b + 3 * 0 then f 0 0 else x) =
    if b ≤ j ∧ j < b + 9 then f (Fin.ofNat 3 ((j - b) / 3)) (Fin.ofNat 3 ((j - b) % 3)) else x := by
  by_cases hj : b ≤ j ∧ j < b + 9
  · rw [if_pos hj]
    obtain ⟨c, rfl⟩ : ∃ c, j = b + c := ⟨j - b, by omega⟩
    have hc : c < 9 := by omega
    rw [Nat.add_sub_cancel_left]
    interval_cases c <;> simp [Nat.add_assoc] <;> rfl
  · rw [if_neg hj]
    repeat rw [if_neg (by omega)]

/-- What one LED block writes: byte by byte, and nothing outside its nine bytes. -/
theorem read_renderLed {m : Memory 8} (h : Memory.wf m) (s : State) (i j : Nat) :
    Memory.read (renderLed s m i) j =
      if s.params.leadBytes.toNat + 9 * slot s i ≤ j ∧
          j < s.params.leadBytes.toNat + 9 * slot s i + 9 then
        blockByte (enc (chan (resolve s i) (channelAt s.params.channelOrder
            (Fin.ofNat 3 ((j - (s.params.leadBytes.toNat + 9 * slot s i)) / 3)))))
          (Fin.ofNat 3 ((j - (s.params.leadBytes.toNat + 9 * slot s i)) % 3))
      else Memory.read m j := by
  simp only [renderLed, List.foldl_cons, List.foldl_nil]
  rw [read_writeBlock (wf_writeBlock (wf_writeBlock h _ _) _ _),
    read_writeBlock (wf_writeBlock h _ _), read_writeBlock h]
  exact read_nine _
    (fun k n => blockByte (enc (chan (resolve s i) (channelAt s.params.channelOrder k))) n) _ j

/-- What the first n LEDs write: the byte of the LED whose slot holds it, else what was there. -/
theorem read_foldl_renderLed (s : State) (n : Nat) {m : Memory 8} (h : Memory.wf m)
    (hn : n ≤ s.ledCount.toNat) (j : Nat) :
    Memory.read ((List.range n).foldl (renderLed s) m) j =
      if s.params.leadBytes.toNat ≤ j ∧ j < s.params.leadBytes.toNat + 9 * s.ledCount.toNat ∧
          slot s ((j - s.params.leadBytes.toNat) / 9) < n then
        blockByte (enc (chan (resolve s (slot s ((j - s.params.leadBytes.toNat) / 9)))
            (channelAt s.params.channelOrder
              (Fin.ofNat 3 ((j - s.params.leadBytes.toNat) % 9 / 3)))))
          (Fin.ofNat 3 ((j - s.params.leadBytes.toNat) % 3))
      else Memory.read m j := by
  induction n with
  | zero => simp
  | succ n ih =>
    rw [List.range_succ, List.foldl_append, List.foldl_cons, List.foldl_nil,
      read_renderLed (wf_foldl_renderLed s _ h), ih (by omega)]
    by_cases hs : s.params.leadBytes.toNat + 9 * slot s n ≤ j ∧
        j < s.params.leadBytes.toNat + 9 * slot s n + 9
    · rw [if_pos hs]
      have hsl : slot s n < s.ledCount.toNat := slot_lt (by omega)
      have hq : (j - s.params.leadBytes.toNat) / 9 = slot s n := by omega
      have hss : slot s (slot s n) = n := slot_slot (by omega)
      have hc : s.params.leadBytes.toNat ≤ j ∧
          j < s.params.leadBytes.toNat + 9 * s.ledCount.toNat ∧
          slot s ((j - s.params.leadBytes.toNat) / 9) < n + 1 :=
        ⟨by omega, by omega, by rw [hq, hss]; omega⟩
      have e1 : (j - (s.params.leadBytes.toNat + 9 * slot s n)) / 3 =
          (j - s.params.leadBytes.toNat) % 9 / 3 := by omega
      have e2 : (j - (s.params.leadBytes.toNat + 9 * slot s n)) % 3 =
          (j - s.params.leadBytes.toNat) % 3 := by omega
      rw [if_pos hc, hq, hss, e1, e2]
    · rw [if_neg hs]
      have hne : s.params.leadBytes.toNat ≤ j →
          j < s.params.leadBytes.toNat + 9 * s.ledCount.toNat →
          slot s ((j - s.params.leadBytes.toNat) / 9) ≠ n := by
        intro h1 h2 he
        have : slot s n = (j - s.params.leadBytes.toNat) / 9 := by
          rw [← he]; exact slot_slot (by omega)
        exact hs (by rw [this]; omega)
      congr 1
      simp only [eq_iff_iff]
      constructor
      · rintro ⟨a, b, c⟩; exact ⟨a, b, by omega⟩
      · rintro ⟨a, b, c⟩; have := hne a b; exact ⟨a, b, by omega⟩

/-- The rendered frame byte by byte (44_transfer_engine.md R176): the payload's LED blocks, 0 elsewhere. -/
theorem read_renderedFrame {s : State} (h : Memory.wf s.frame)
    (hb : ∀ c ∈ s.frame, c.1 < frameCap s.params) (j : Nat) :
    Memory.read (renderedFrame s) j =
      if s.params.leadBytes.toNat ≤ j ∧ j < s.params.leadBytes.toNat + 9 * s.ledCount.toNat then
        blockByte (enc (chan (resolve s (slot s ((j - s.params.leadBytes.toNat) / 9)))
            (channelAt s.params.channelOrder
              (Fin.ofNat 3 ((j - s.params.leadBytes.toNat) % 9 / 3)))))
          (Fin.ofNat 3 ((j - s.params.leadBytes.toNat) % 3))
      else 0 := by
  unfold renderedFrame
  rw [read_foldl_renderLed s _ (Memory.wf_clearBelow h _) (Nat.le_refl _)]
  have hclr : Memory.read (Memory.clearBelow (frameCap s.params) s.frame) j = 0 := by
    apply Memory.read_of_not_listed
    intro c hc
    have hc := Memory.mem_clearBelow.mp hc
    have := hb c hc.1
    omega
  rw [hclr]
  congr 1
  simp only [eq_iff_iff]
  exact ⟨fun ⟨a, b, _⟩ => ⟨a, b⟩, fun ⟨a, b⟩ => ⟨a, b, slot_lt (by omega)⟩⟩

end Sys2Proof.Machine
end

