-- ==== Sys2Proof/Laws/Exec.lean ====
section
/-! SUPPORT. What a transaction can do, said once: the case lemma of TICK and of `exec`. -/

namespace Sys2Proof.Machine

/-- What TICK does: it issues a transfer, issues a zero-length one, or runs the expiry step alone. -/
theorem tick_cases (s : State) :
    (tickRenders s ∧ 0 < frameLen s.params s.ledCount.toNat ∧
      renderIfDue (expireOverlay s.nowUs s) =
        { s with
          ovActive := s.ovActive && !expired s.nowUs s
          dirty := false
          frame := renderedFrame (expireOverlay s.nowUs s)
          txActive := true
          txLen := BitVec.ofNat 20 (frameLen s.params s.ledCount.toNat)
          txCount := s.ledCount
          txByte := 0
          txBit := 7 }) ∨
    (tickRenders s ∧ frameLen s.params s.ledCount.toNat = 0 ∧
      renderIfDue (expireOverlay s.nowUs s) =
        { s with
          ovActive := s.ovActive && !expired s.nowUs s
          dirty := false
          frame := renderedFrame (expireOverlay s.nowUs s)
          done := true }) ∨
    (¬ tickRenders s ∧
      renderIfDue (expireOverlay s.nowUs s) =
        { s with
          ovActive := s.ovActive && !expired s.nowUs s
          dirty := s.dirty || expired s.nowUs s }) := by
  have hx := expireOverlay_eq s.nowUs s
  rcases renderIfDue_cases (expireOverlay s.nowUs s) with ⟨hd, h⟩ | ⟨hd, ht, h⟩ | ⟨hd, ht, h⟩ <;>
    rw [hx] at hd
  · refine .inr (.inr ⟨?_, by rw [h, hx]⟩)
    simp at hd
    rintro ⟨h | h, -⟩ <;> simp_all
  · rw [hx] at ht
    exact .inr (.inr ⟨by rintro ⟨-, h⟩; simp_all, by rw [h, hx]⟩)
  · rw [hx] at ht
    have hr : tickRenders s := ⟨by simpa using hd, ht⟩
    by_cases hl : 0 < frameLen s.params s.ledCount.toNat
    · refine .inl ⟨hr, hl, ?_⟩
      rw [h, issue_of_pos (by rw [hx]; exact hl)]
      simp only [render, hx]
    · refine .inr (.inl ⟨hr, by omega, ?_⟩)
      rw [h, issue_of_zero (by rw [hx]; simp only [render]; omega)]
      simp only [render, hx]

/-- What a transaction can do: a read, nothing (no TICK then: it has the clause of its own), or the one
effect of its row. -/
theorem exec_cases {i : Instr} {s t : State} (h : exec i s = .next t) :
    ((encode i).getLsbD 38 = false ∧ ∃ v, t = { s with q := some v }) ∨
    ((∀ d, i ≠ .tick d) ∧ t = s) ∨
    (∃ d, i = .wrCtrl d ∧ t = { s with
      reverse := d.getLsbD 0
      irqEn := d.getLsbD 1
      dirty := if d.getLsbD 0 = s.reverse then s.dirty else true }) ∨
    (∃ d, i = .wrStatus d ∧ t = { s with
      done := w1c s.done (d.getLsbD 8)
      errRange := w1c s.errRange (d.getLsbD 9)
      errCmd := w1c s.errCmd (d.getLsbD 10) }) ∨
    (∃ d, i = .wrLedCount d ∧ ledCountLegal d s = false ∧ t = { s with errRange := true }) ∨
    (∃ d, i = .wrLedCount d ∧ ledCountLegal d s = true ∧ s.txActive = false ∧
      t = { s with ledCount := field16 d, dirty := true }) ∨
    (∃ d, i = .tick d ∧ t = renderIfDue (expireOverlay s.nowUs s)) ∨
    (∃ d, i = .reset d ∧ s.txActive = false ∧ t = { s with
      pix := Memory.clearBelow s.params.maxLeds.toNat s.pix
      ovActive := false
      ovColor := 0
      ovCount := 0
      ovDur := 0
      ovStart := 0
      ovColorStg := 0
      ovCountStg := 0
      ovDurStg := 0
      dirty := true }) ∨
    (∃ d, i = .splash d ∧ t = { s with
      ovColor := s.ovColorStg
      ovCount := s.ovCountStg
      ovDur := s.ovDurStg
      ovStart := s.nowUs
      ovActive := true
      dirty := true }) ∨
    (∃ d, (i = .cmdRsv4 d ∨ i = .cmdRsv8 d) ∧ t = { s with errCmd := true }) ∨
    (∃ d, i = .wrPixIndex d ∧ t = { s with pixIndex := field16 d }) ∨
    (∃ d, i = .wrPixData d ∧ pixIndexInRange s = true ∧
      t = { s with pix := Memory.write s.pix s.pixIndex.toNat (fieldRgb d), dirty := true }) ∨
    (∃ d, i = .wrPixData d ∧ pixIndexInRange s = false ∧ t = { s with errRange := true }) ∨
    (∃ d, i = .wrPixFill d ∧
      t = { s with pix := Memory.fillBelow s.ledCount.toNat (fieldRgb d) s.pix, dirty := true }) ∨
    (∃ d, i = .wrOvColor d ∧ t = { s with ovColorStg := fieldRgb d }) ∨
    (∃ d, i = .wrOvCount d ∧ t = { s with ovCountStg := field16 d }) ∨
    (∃ d, i = .wrOvDuration d ∧ t = { s with ovDurStg := d }) ∨
    (∃ d, i = .wrFrameIndex d ∧ t = { s with frameIndex := field20 d }) ∨
    (∃ d, i = .wrEnc d ∧ t = { s with encIn := fieldByte d }) := by
  cases i <;> simp only [
    exec, execRdCaps, execWrCaps, execRdCtrl, execWrCtrl, execRdStatus, execWrStatus,
    execRdLedCount, execWrLedCount, execRdCmd, execNop, execTick, execReset, execSplash,
    execCmdRsv4, execCmdRsv8, execRdPixIndex, execWrPixIndex, execRdPixData, execWrPixData,
    execRdPixFill, execWrPixFill, execRdOvColor, execWrOvColor, execRdOvCount, execWrOvCount,
    execRdOvDuration, execWrOvDuration, execRdNow, execWrNow, execRdFrameLen, execWrFrameLen,
    execRdFrameIndex, execWrFrameIndex, execRdFrameData, execWrFrameData, execRdEnc, execWrEnc,
    execRdOvStart, execWrOvStart, execRdTxPos, execWrTxPos, execRdRsv12, execWrRsv12,
    execRdRsv14, execWrRsv14, execRdRsv18, execWrRsv18, execRdRsv20, execWrRsv20, answer_eq,
    ignored_eq, held_eq, Host.Outcome.next.injEq] at h
  all_goals first
    | (refine .inr (.inl ⟨?_, h.symm⟩); intro _ hi; cases hi)
    | (refine .inl ⟨?_, _, h.symm⟩; exact we_rdTxn _)
    | (subst h; simp [fieldReverse, fieldIrqEn, fieldDone, fieldErrRange, fieldErrCmd, fieldWord, raiseErrCmd,
        markDirty])
    | skip
  case wrLedCount d =>
    split at h
    · simp at h; subst h; simp_all [raiseErrRange]
    · split at h
      · simp at h; subst h; simp
      · simp at h; subst h; simp_all [markDirty]
  case reset d =>
    split at h
    · simp at h; subst h; simp
    · simp at h; subst h; simp_all
  case wrPixData d =>
    split at h
    · simp at h; subst h; simp_all [markDirty, pixWrite]
    · simp at h; subst h; simp_all [raiseErrRange]

end Sys2Proof.Machine
end

