-- ==== Sys2Proof/Laws/PerInstr.lean ====
section
/-! SUPPORT. The family RowMatch: the word of a well-formed transaction lies in the opcode-table row of its
mnemonic (spec 30_encoding.md R98), one lemma per constructor. -/

namespace Sys2Proof.Laws.RowMatch

/-- The word matches the row of this mnemonic, mask and pattern. -/
abbrev InRow (mnemonic : String) (t : Txn) : Prop :=
  ∃ r ∈ opcodeTable, r.mnemonic = mnemonic ∧ r.covers t = true

/-- A well-formed transaction's word matches the table row of its mnemonic. -/
def Statement (i : Instr) : Prop := i.wf = true → InRow i.mnemonic (encode i)

/-- A written word under a mask, field by field. -/
theorem wrTxn_and (a ma : BitVec 6) (d md : Word) :
    wrTxn a d &&& (1#1 ++ ma ++ md) = 1#1 ++ (a &&& ma) ++ (d &&& md) := by
  unfold wrTxn
  rw [BitVec.and_append, BitVec.and_append]
  rfl

/-- A write whose mask takes no bit of D. -/
theorem covers_write {n : String} {mask pattern : Txn} (a ma pa : BitVec 6) (d : Word)
    (hm : mask = 1#1 ++ ma ++ 0#32) (hp : pattern = 1#1 ++ pa ++ 0#32) (ha : a &&& ma = pa) :
    (TableRow.mk n mask pattern).covers (wrTxn a d) = true := by
  simp only [TableRow.covers]
  rw [hm, wrTxn_and, hp, ha, BitVec.and_zero]
  exact beq_self_eq_true _

/-- A write to CMD, whose mask takes bits of D. -/
theorem covers_cmd {n : String} {mask pattern : Txn} (d md pd : Word)
    (hm : mask = 1#1 ++ 0x3F#6 ++ md) (hp : pattern = 1#1 ++ 0x04#6 ++ pd) (hd : d &&& md = pd) :
    (TableRow.mk n mask pattern).covers (wrTxn Reg.cmd.addr d) = true := by
  simp only [TableRow.covers]
  rw [hm, wrTxn_and, hp, hd]
  exact beq_self_eq_true _

/-- The low four bits of D under a four-bit mask. -/
theorem and_code (d : Word) (m : BitVec 4) : d &&& (0#28 ++ m) = 0#28 ++ (cmdCode d &&& m) := by
  have hd : d = d.extractLsb' 4 28 ++ cmdCode d := by
    apply BitVec.eq_of_getLsbD_eq
    intro i hi
    simp only [cmdCode, BitVec.getLsbD_append, BitVec.getLsbD_extractLsb']
    by_cases h : i < 4
    · simp [h]
    · simp [h, show i - 4 < 28 by omega, show 4 + (i - 4) = i by omega]
  conv_lhs => rw [hd]
  rw [BitVec.and_append, BitVec.and_zero]

theorem rdCaps : Statement (.rdCaps) :=
  fun _ => ⟨⟨"RD_CAPS", 0x7F00000000#39, 0x0000000000#39⟩, by decide, rfl, by decide⟩

theorem wrCaps (d : Word) : Statement (.wrCaps d) :=
  fun _ => ⟨⟨"WR_CAPS", 0x7F00000000#39, 0x4000000000#39⟩, by decide, rfl,
    covers_write Reg.caps.addr 0x3f 0x00 d (by decide) (by decide) (by decide)⟩

theorem rdCtrl : Statement (.rdCtrl) :=
  fun _ => ⟨⟨"RD_CTRL", 0x7F00000000#39, 0x0100000000#39⟩, by decide, rfl, by decide⟩

theorem wrCtrl (d : Word) : Statement (.wrCtrl d) :=
  fun _ => ⟨⟨"WR_CTRL", 0x7F00000000#39, 0x4100000000#39⟩, by decide, rfl,
    covers_write Reg.ctrl.addr 0x3f 0x01 d (by decide) (by decide) (by decide)⟩

theorem rdStatus : Statement (.rdStatus) :=
  fun _ => ⟨⟨"RD_STATUS", 0x7F00000000#39, 0x0200000000#39⟩, by decide, rfl, by decide⟩

theorem wrStatus (d : Word) : Statement (.wrStatus d) :=
  fun _ => ⟨⟨"WR_STATUS", 0x7F00000000#39, 0x4200000000#39⟩, by decide, rfl,
    covers_write Reg.status.addr 0x3f 0x02 d (by decide) (by decide) (by decide)⟩

theorem rdLedCount : Statement (.rdLedCount) :=
  fun _ => ⟨⟨"RD_LED_COUNT", 0x7F00000000#39, 0x0300000000#39⟩, by decide, rfl, by decide⟩

theorem wrLedCount (d : Word) : Statement (.wrLedCount d) :=
  fun _ => ⟨⟨"WR_LED_COUNT", 0x7F00000000#39, 0x4300000000#39⟩, by decide, rfl,
    covers_write Reg.ledCount.addr 0x3f 0x03 d (by decide) (by decide) (by decide)⟩

theorem rdCmd : Statement (.rdCmd) :=
  fun _ => ⟨⟨"RD_CMD", 0x7F00000000#39, 0x0400000000#39⟩, by decide, rfl, by decide⟩

theorem nop (d : Word) : Statement (.nop d) :=
  fun h => ⟨⟨"NOP", 0x7F0000000F#39, 0x4400000000#39⟩, by decide, rfl,
    covers_cmd d (0#28 ++ 0xf#4) (0#28 ++ 0x0#4) (by decide) (by decide) (by
      rw [and_code]
      have hc : ∀ c : BitVec 4, (c == 0#4) = true → c &&& 0xf#4 = 0x0#4 := by decide
      rw [hc _ h])⟩

theorem tick (d : Word) : Statement (.tick d) :=
  fun h => ⟨⟨"TICK", 0x7F0000000F#39, 0x4400000001#39⟩, by decide, rfl,
    covers_cmd d (0#28 ++ 0xf#4) (0#28 ++ 0x1#4) (by decide) (by decide) (by
      rw [and_code]
      have hc : ∀ c : BitVec 4, (c == 1#4) = true → c &&& 0xf#4 = 0x1#4 := by decide
      rw [hc _ h])⟩

theorem reset (d : Word) : Statement (.reset d) :=
  fun h => ⟨⟨"RESET", 0x7F0000000F#39, 0x4400000002#39⟩, by decide, rfl,
    covers_cmd d (0#28 ++ 0xf#4) (0#28 ++ 0x2#4) (by decide) (by decide) (by
      rw [and_code]
      have hc : ∀ c : BitVec 4, (c == 2#4) = true → c &&& 0xf#4 = 0x2#4 := by decide
      rw [hc _ h])⟩

theorem splash (d : Word) : Statement (.splash d) :=
  fun h => ⟨⟨"SPLASH", 0x7F0000000F#39, 0x4400000003#39⟩, by decide, rfl,
    covers_cmd d (0#28 ++ 0xf#4) (0#28 ++ 0x3#4) (by decide) (by decide) (by
      rw [and_code]
      have hc : ∀ c : BitVec 4, (c == 3#4) = true → c &&& 0xf#4 = 0x3#4 := by decide
      rw [hc _ h])⟩

theorem cmdRsv4 (d : Word) : Statement (.cmdRsv4 d) :=
  fun h => ⟨⟨"CMD_RSV_4", 0x7F0000000C#39, 0x4400000004#39⟩, by decide, rfl,
    covers_cmd d (0#28 ++ 0xc#4) (0#28 ++ 0x4#4) (by decide) (by decide) (by
      rw [and_code]
      have hc : ∀ c : BitVec 4, (c.extractLsb' 2 2 == 0b01#2) = true → c &&& 0xc#4 = 0x4#4 := by decide
      rw [hc _ h])⟩

theorem cmdRsv8 (d : Word) : Statement (.cmdRsv8 d) :=
  fun h => ⟨⟨"CMD_RSV_8", 0x7F00000008#39, 0x4400000008#39⟩, by decide, rfl,
    covers_cmd d (0#28 ++ 0x8#4) (0#28 ++ 0x8#4) (by decide) (by decide) (by
      rw [and_code]
      have hc : ∀ c : BitVec 4, c.getLsbD 3 = true → c &&& 0x8#4 = 0x8#4 := by decide
      rw [hc _ h])⟩

theorem rdPixIndex : Statement (.rdPixIndex) :=
  fun _ => ⟨⟨"RD_PIX_INDEX", 0x7F00000000#39, 0x0500000000#39⟩, by decide, rfl, by decide⟩

theorem wrPixIndex (d : Word) : Statement (.wrPixIndex d) :=
  fun _ => ⟨⟨"WR_PIX_INDEX", 0x7F00000000#39, 0x4500000000#39⟩, by decide, rfl,
    covers_write Reg.pixIndex.addr 0x3f 0x05 d (by decide) (by decide) (by decide)⟩

theorem rdPixData : Statement (.rdPixData) :=
  fun _ => ⟨⟨"RD_PIX_DATA", 0x7F00000000#39, 0x0600000000#39⟩, by decide, rfl, by decide⟩

theorem wrPixData (d : Word) : Statement (.wrPixData d) :=
  fun _ => ⟨⟨"WR_PIX_DATA", 0x7F00000000#39, 0x4600000000#39⟩, by decide, rfl,
    covers_write Reg.pixData.addr 0x3f 0x06 d (by decide) (by decide) (by decide)⟩

theorem rdPixFill : Statement (.rdPixFill) :=
  fun _ => ⟨⟨"RD_PIX_FILL", 0x7F00000000#39, 0x0700000000#39⟩, by decide, rfl, by decide⟩

theorem wrPixFill (d : Word) : Statement (.wrPixFill d) :=
  fun _ => ⟨⟨"WR_PIX_FILL", 0x7F00000000#39, 0x4700000000#39⟩, by decide, rfl,
    covers_write Reg.pixFill.addr 0x3f 0x07 d (by decide) (by decide) (by decide)⟩

theorem rdOvColor : Statement (.rdOvColor) :=
  fun _ => ⟨⟨"RD_OV_COLOR", 0x7F00000000#39, 0x0800000000#39⟩, by decide, rfl, by decide⟩

theorem wrOvColor (d : Word) : Statement (.wrOvColor d) :=
  fun _ => ⟨⟨"WR_OV_COLOR", 0x7F00000000#39, 0x4800000000#39⟩, by decide, rfl,
    covers_write Reg.ovColor.addr 0x3f 0x08 d (by decide) (by decide) (by decide)⟩

theorem rdOvCount : Statement (.rdOvCount) :=
  fun _ => ⟨⟨"RD_OV_COUNT", 0x7F00000000#39, 0x0900000000#39⟩, by decide, rfl, by decide⟩

theorem wrOvCount (d : Word) : Statement (.wrOvCount d) :=
  fun _ => ⟨⟨"WR_OV_COUNT", 0x7F00000000#39, 0x4900000000#39⟩, by decide, rfl,
    covers_write Reg.ovCount.addr 0x3f 0x09 d (by decide) (by decide) (by decide)⟩

theorem rdOvDuration : Statement (.rdOvDuration) :=
  fun _ => ⟨⟨"RD_OV_DURATION", 0x7F00000000#39, 0x0A00000000#39⟩, by decide, rfl, by decide⟩

theorem wrOvDuration (d : Word) : Statement (.wrOvDuration d) :=
  fun _ => ⟨⟨"WR_OV_DURATION", 0x7F00000000#39, 0x4A00000000#39⟩, by decide, rfl,
    covers_write Reg.ovDuration.addr 0x3f 0x0a d (by decide) (by decide) (by decide)⟩

theorem rdNow : Statement (.rdNow) :=
  fun _ => ⟨⟨"RD_NOW", 0x7F00000000#39, 0x0B00000000#39⟩, by decide, rfl, by decide⟩

theorem wrNow (d : Word) : Statement (.wrNow d) :=
  fun _ => ⟨⟨"WR_NOW", 0x7F00000000#39, 0x4B00000000#39⟩, by decide, rfl,
    covers_write Reg.now.addr 0x3f 0x0b d (by decide) (by decide) (by decide)⟩

theorem rdFrameLen : Statement (.rdFrameLen) :=
  fun _ => ⟨⟨"RD_FRAME_LEN", 0x7F00000000#39, 0x0C00000000#39⟩, by decide, rfl, by decide⟩

theorem wrFrameLen (d : Word) : Statement (.wrFrameLen d) :=
  fun _ => ⟨⟨"WR_FRAME_LEN", 0x7F00000000#39, 0x4C00000000#39⟩, by decide, rfl,
    covers_write Reg.frameLen.addr 0x3f 0x0c d (by decide) (by decide) (by decide)⟩

theorem rdFrameIndex : Statement (.rdFrameIndex) :=
  fun _ => ⟨⟨"RD_FRAME_INDEX", 0x7F00000000#39, 0x0D00000000#39⟩, by decide, rfl, by decide⟩

theorem wrFrameIndex (d : Word) : Statement (.wrFrameIndex d) :=
  fun _ => ⟨⟨"WR_FRAME_INDEX", 0x7F00000000#39, 0x4D00000000#39⟩, by decide, rfl,
    covers_write Reg.frameIndex.addr 0x3f 0x0d d (by decide) (by decide) (by decide)⟩

theorem rdFrameData : Statement (.rdFrameData) :=
  fun _ => ⟨⟨"RD_FRAME_DATA", 0x7F00000000#39, 0x0E00000000#39⟩, by decide, rfl, by decide⟩

theorem wrFrameData (d : Word) : Statement (.wrFrameData d) :=
  fun _ => ⟨⟨"WR_FRAME_DATA", 0x7F00000000#39, 0x4E00000000#39⟩, by decide, rfl,
    covers_write Reg.frameData.addr 0x3f 0x0e d (by decide) (by decide) (by decide)⟩

theorem rdEnc : Statement (.rdEnc) :=
  fun _ => ⟨⟨"RD_ENC", 0x7F00000000#39, 0x0F00000000#39⟩, by decide, rfl, by decide⟩

theorem wrEnc (d : Word) : Statement (.wrEnc d) :=
  fun _ => ⟨⟨"WR_ENC", 0x7F00000000#39, 0x4F00000000#39⟩, by decide, rfl,
    covers_write Reg.enc.addr 0x3f 0x0f d (by decide) (by decide) (by decide)⟩

theorem rdOvStart : Statement (.rdOvStart) :=
  fun _ => ⟨⟨"RD_OV_START", 0x7F00000000#39, 0x1000000000#39⟩, by decide, rfl, by decide⟩

theorem wrOvStart (d : Word) : Statement (.wrOvStart d) :=
  fun _ => ⟨⟨"WR_OV_START", 0x7F00000000#39, 0x5000000000#39⟩, by decide, rfl,
    covers_write Reg.ovStart.addr 0x3f 0x10 d (by decide) (by decide) (by decide)⟩

theorem rdTxPos : Statement (.rdTxPos) :=
  fun _ => ⟨⟨"RD_TX_POS", 0x7F00000000#39, 0x1100000000#39⟩, by decide, rfl, by decide⟩

theorem wrTxPos (d : Word) : Statement (.wrTxPos d) :=
  fun _ => ⟨⟨"WR_TX_POS", 0x7F00000000#39, 0x5100000000#39⟩, by decide, rfl,
    covers_write Reg.txPos.addr 0x3f 0x11 d (by decide) (by decide) (by decide)⟩

theorem rdRsv12 (a : BitVec 6) : Statement (.rdRsv12 a) :=
  fun h => ⟨⟨"RD_RSV_12", 0x7E00000000#39, 0x1200000000#39⟩, by decide, rfl, by revert a; decide⟩

theorem wrRsv12 (a : BitVec 6) (d : Word) : Statement (.wrRsv12 a d) :=
  fun h => ⟨⟨"WR_RSV_12", 0x7E00000000#39, 0x5200000000#39⟩, by decide, rfl,
    covers_write a 0x3e 0x12 d (by decide) (by decide) (by change inRange a 0x12 0x13 = true at h; revert a; decide)⟩

theorem rdRsv14 (a : BitVec 6) : Statement (.rdRsv14 a) :=
  fun h => ⟨⟨"RD_RSV_14", 0x7C00000000#39, 0x1400000000#39⟩, by decide, rfl, by revert a; decide⟩

theorem wrRsv14 (a : BitVec 6) (d : Word) : Statement (.wrRsv14 a d) :=
  fun h => ⟨⟨"WR_RSV_14", 0x7C00000000#39, 0x5400000000#39⟩, by decide, rfl,
    covers_write a 0x3c 0x14 d (by decide) (by decide) (by change inRange a 0x14 0x17 = true at h; revert a; decide)⟩

theorem rdRsv18 (a : BitVec 6) : Statement (.rdRsv18 a) :=
  fun h => ⟨⟨"RD_RSV_18", 0x7800000000#39, 0x1800000000#39⟩, by decide, rfl, by revert a; decide⟩

theorem wrRsv18 (a : BitVec 6) (d : Word) : Statement (.wrRsv18 a d) :=
  fun h => ⟨⟨"WR_RSV_18", 0x7800000000#39, 0x5800000000#39⟩, by decide, rfl,
    covers_write a 0x38 0x18 d (by decide) (by decide) (by change inRange a 0x18 0x1f = true at h; revert a; decide)⟩

theorem rdRsv20 (a : BitVec 6) : Statement (.rdRsv20 a) :=
  fun h => ⟨⟨"RD_RSV_20", 0x6000000000#39, 0x2000000000#39⟩, by decide, rfl, by revert a; decide⟩

theorem wrRsv20 (a : BitVec 6) (d : Word) : Statement (.wrRsv20 a d) :=
  fun h => ⟨⟨"WR_RSV_20", 0x6000000000#39, 0x6000000000#39⟩, by decide, rfl,
    covers_write a 0x20 0x20 d (by decide) (by decide) (by change inRange a 0x20 0x3f = true at h; revert a; decide)⟩

end Sys2Proof.Laws.RowMatch
end

