-- ==== Sys2Proof/Tests/Slice0.lean ====
section
/-! SUPPORT. Tests. Expected values are those of spec/95_test_vectors.md (named in each comment) or worked out
by hand from the rule named; the witnesses at the end meet the hypotheses of the obligations. -/

namespace Sys2Proof.Tests

open Sys2Proof Sys2Proof.Machine

/-! ## Well-formedness: an ill-formed term for each check -/

theorem test_wf_nop : (Instr.nop 0x5).wf = false := by decide

theorem test_wf_tick : (Instr.tick 0x0).wf = false := by decide

theorem test_wf_reset : (Instr.reset 0x1).wf = false := by decide

theorem test_wf_splash : (Instr.splash 0x2).wf = false := by decide

theorem test_wf_cmdRsv4 :
    (Instr.cmdRsv4 0x3).wf = false ∧ (Instr.cmdRsv4 0x8).wf = false ∧ (Instr.cmdRsv4 0xC).wf = false := by
  decide

theorem test_wf_cmdRsv8 : (Instr.cmdRsv8 0x7).wf = false := by decide

theorem test_wf_rsv12 :
    (Instr.rdRsv12 0x11).wf = false ∧ (Instr.rdRsv12 0x14).wf = false ∧
    (Instr.wrRsv12 0x11 0).wf = false ∧ (Instr.wrRsv12 0x14 0).wf = false := by decide

theorem test_wf_rsv14 :
    (Instr.rdRsv14 0x13).wf = false ∧ (Instr.rdRsv14 0x18).wf = false ∧
    (Instr.wrRsv14 0x13 0).wf = false ∧ (Instr.wrRsv14 0x18 0).wf = false := by decide

theorem test_wf_rsv18 :
    (Instr.rdRsv18 0x17).wf = false ∧ (Instr.rdRsv18 0x20).wf = false ∧
    (Instr.wrRsv18 0x17 0).wf = false ∧ (Instr.wrRsv18 0x20 0).wf = false := by decide

theorem test_wf_rsv20 :
    (Instr.rdRsv20 0x1f).wf = false ∧ (Instr.wrRsv20 0x1f 0).wf = false := by decide

/-! ## Decoding: every constructor by a word of 30_encoding.md R98 -/

theorem test_decode_config :
    decode 0x0000000000#39 = .rdCaps ∧ decode 0x4000000007#39 = .wrCaps 7 ∧
    decode 0x0100000000#39 = .rdCtrl ∧ decode 0x41FFFFFFFF#39 = .wrCtrl 0xFFFFFFFF ∧
    decode 0x0200000000#39 = .rdStatus ∧ decode 0x4200000700#39 = .wrStatus 0x700 ∧
    decode 0x0300000000#39 = .rdLedCount ∧ decode 0x4300010002#39 = .wrLedCount 0x10002 := by decide

theorem test_decode_cmd :
    decode 0x0400000000#39 = .rdCmd ∧ decode 0x4400000010#39 = .nop 0x10 ∧
    decode 0x4400000021#39 = .tick 0x21 ∧ decode 0x4400000002#39 = .reset 0x2 ∧
    decode 0x4400000013#39 = .splash 0x13 ∧
    decode 0x4400000004#39 = .cmdRsv4 0x4 ∧ decode 0x4400000007#39 = .cmdRsv4 0x7 ∧
    decode 0x4400000008#39 = .cmdRsv8 0x8 ∧ decode 0x440000000F#39 = .cmdRsv8 0xF := by decide

theorem test_decode_pixel :
    decode 0x0500000000#39 = .rdPixIndex ∧ decode 0x4500012345#39 = .wrPixIndex 0x12345 ∧
    decode 0x0600000000#39 = .rdPixData ∧ decode 0x46FF123456#39 = .wrPixData 0xFF123456 ∧
    decode 0x0700000000#39 = .rdPixFill ∧ decode 0x4700123456#39 = .wrPixFill 0x123456 := by decide

theorem test_decode_overlay :
    decode 0x0800000000#39 = .rdOvColor ∧ decode 0x4800FF0000#39 = .wrOvColor 0xFF0000 ∧
    decode 0x0900000000#39 = .rdOvCount ∧ decode 0x4900000002#39 = .wrOvCount 2 ∧
    decode 0x0A00000000#39 = .rdOvDuration ∧ decode 0x4A000186A0#39 = .wrOvDuration 100000 ∧
    decode 0x0B00000000#39 = .rdNow ∧ decode 0x4B00000005#39 = .wrNow 5 ∧
    decode 0x1000000000#39 = .rdOvStart ∧ decode 0x5000000001#39 = .wrOvStart 1 := by decide

theorem test_decode_frame :
    decode 0x0C00000000#39 = .rdFrameLen ∧ decode 0x4C00000001#39 = .wrFrameLen 1 ∧
    decode 0x0D00000000#39 = .rdFrameIndex ∧ decode 0x4D000FFFFF#39 = .wrFrameIndex 0xFFFFF ∧
    decode 0x0E00000000#39 = .rdFrameData ∧ decode 0x4E000000FF#39 = .wrFrameData 0xFF ∧
    decode 0x0F00000000#39 = .rdEnc ∧ decode 0x4F000001FF#39 = .wrEnc 0x1FF ∧
    decode 0x1100000000#39 = .rdTxPos ∧ decode 0x5100000001#39 = .wrTxPos 1 := by decide

theorem test_decode_reserved :
    decode 0x1200000000#39 = .rdRsv12 0x12 ∧ decode 0x5300000001#39 = .wrRsv12 0x13 1 ∧
    decode 0x1400000000#39 = .rdRsv14 0x14 ∧ decode 0x5700000001#39 = .wrRsv14 0x17 1 ∧
    decode 0x1800000000#39 = .rdRsv18 0x18 ∧ decode 0x5F00000001#39 = .wrRsv18 0x1F 1 ∧
    decode 0x2000000000#39 = .rdRsv20 0x20 ∧ decode 0x3F00000000#39 = .rdRsv20 0x3F ∧
    decode 0x6000000001#39 = .wrRsv20 0x20 1 ∧ decode 0x7FFFFFFFFF#39 = .wrRsv20 0x3F 0xFFFFFFFF := by
  decide

/-- D is ignored for a read (R90). -/
theorem test_decode_read_ignores_d : decode 0x02FFFFFFFF#39 = .rdStatus := by decide

/-- Each row's mask and pattern are disjoint from every other row's (R91). -/
theorem test_rows_disjoint :
    opcodeTable.Pairwise fun r r' =>
      r.pattern &&& r.mask &&& r'.mask ≠ r'.pattern &&& r'.mask &&& r.mask := by decide

/-- A number of more than 39 bits is no transaction. -/
theorem test_decodeNat_wide :
    decodeNat 0x8000000000 = .error .widerThanTransaction ∧ decodeTableWord 40 0x8000000000 = none := by
  decide

/-! ## Helpers -/

/-- The next state. -/
def next? : Result → Option State
  | .next s => some s
  | _ => none

/-- The read data of a transaction in a state. -/
def readOf (i : Instr) (s : State) : Option Word := (next? (exec i s)).bind State.q

/-- What STATUS reads after a transaction (the vectors' "st"). -/
def statusAfter (i : Instr) (s : State) : Option Word := (next? (exec i s)).map statusWord

/-- The first n bytes of the frame after a transaction. -/
def frameAfter (n : Nat) (i : Instr) (s : State) : Option (List Byte) :=
  (next? (exec i s)).map fun t => (List.range n).map (frameRead t)

/-- EX with a dark frame of the four LEDs in flight, at its first cell. -/
def busy : State :=
  { State.reset with txActive := true, txLen := 39, txCount := 4, dirty := false }

/-- V-TX3: two LEDs, red and blue. -/
def twoLeds : State :=
  { State.reset with
    ledCount := 2
    dirty := true
    pix := [(0, 0xFF0000), (1, 0x0000FF)] }

/-- EX with an overlay of red over two of four LEDs, started at 1000 for 100000 (S-E4). -/
def splashed : State :=
  { State.reset with
    ovActive := true
    ovColor := 0xFF0000
    ovCount := 2
    ovDur := 100000
    ovStart := 1000
    dirty := true
    pix := [(0, 0x0000FF)] }

/-! ## Configuration and status -/

/-- V-CFG-1. -/
theorem test_rdCaps : readOf .rdCaps State.reset = some 0x02010008 := by decide

/-- V-CFG-15. -/
theorem test_wrCaps : next? (exec (.wrCaps 0) busy) = some busy := by decide

/-- V-CFG-5. -/
theorem test_rdCtrl :
    readOf .rdCtrl { State.reset with reverse := true, irqEn := true } = some 0x3 ∧
    readOf .rdCtrl { State.reset with irqEn := true } = some 0x2 := by decide

/-- V-CFG-2, V-CFG-4. -/
theorem test_wrCtrl :
    statusAfter (.wrCtrl 1) State.reset = some 0x2 ∧
    (next? (exec (.wrCtrl 3) { State.reset with reverse := true, done := true })).map
      (fun t => (t.dirty, irq t)) = some (false, true) := by decide

/-- V-ERR-1. -/
theorem test_rdStatus :
    readOf .rdStatus { busy with errRange := true, errCmd := true } = some 0x609 := by decide

/-- V-CFG-6, V-CFG-8. -/
theorem test_wrStatus :
    statusAfter (.wrStatus 0x200) { State.reset with done := true, errRange := true, errCmd := true } =
      some 0x500 ∧
    next? (exec (.wrStatus 7) { State.reset with done := true }) =
      some { State.reset with done := true } := by decide

/-- The reset value of LED_COUNT under EX. -/
theorem test_rdLedCount : readOf .rdLedCount State.reset = some 4 := by decide

/-- V-CFG-10, V-CFG-11. -/
theorem test_wrLedCount :
    statusAfter (.wrLedCount 9) State.reset = some 0x200 ∧
    (next? (exec (.wrLedCount 0x10002) State.reset)).map (fun t => (t.ledCount, t.dirty)) =
      some (2, true) := by decide

/-- V-CFG-13, V-CFG-14. -/
theorem test_wrLedCount_busy :
    waits (.wrLedCount 2) busy = true ∧ waits (.wrLedCount 9) busy = false ∧
    next? (exec (.wrLedCount 9) busy) = some { busy with errRange := true } := by decide

/-! ## Commands -/

/-- V-CFG-16. -/
theorem test_rdCmd : readOf .rdCmd busy = some 0 := by decide

/-- V-CMD-1. -/
theorem test_nop : next? (exec (.nop 0x10) busy) = some busy := by decide

/-- V-TX3: the frame of two LEDs. -/
theorem test_tick :
    frameAfter 21 (.tick 1) twoLeds =
      some [0x00, 0x92, 0x49, 0x24, 0xDB, 0x6D, 0xB6, 0x92, 0x49, 0x24, 0x92, 0x49, 0x24, 0x92, 0x49,
        0x24, 0xDB, 0x6D, 0xB6, 0x00, 0x00] := by decide

/-- V-TX9: a TICK while busy defers. -/
theorem test_tick_busy :
    next? (exec (.tick 1) { busy with dirty := true }) = some { busy with dirty := true } := by decide

/-- V-CMD-6, V-CMD-7. -/
theorem test_reset :
    next? (exec (.reset 2) { splashed with reverse := true, pixIndex := 2, errRange := true }) =
      some { State.reset with reverse := true, pixIndex := 2, errRange := true, dirty := true } ∧
    waits (.reset 2) busy = true := by decide

/-- V-OV-12. -/
theorem test_splash :
    (next? (exec (.splash 3) { splashed with
        nowUs := 5000, ovColorStg := 0xFF00, ovCountStg := 1, ovDurStg := 7 })).map
      (fun t => (t.ovStart, t.ovColor, t.ovCount, t.ovDur, t.ovActive)) =
      some (5000, 0xFF00, 1, 7, true) := by decide

/-- V-CMD-2. -/
theorem test_cmdRsv4 : statusAfter (.cmdRsv4 7) State.reset = some 0x400 := by decide

/-- V-CMD-3. -/
theorem test_cmdRsv8 : statusAfter (.cmdRsv8 0xF) State.reset = some 0x400 := by decide

/-! ## Pixel store -/

/-- V-PIX-5. -/
theorem test_wrPixIndex :
    (next? (exec (.wrPixIndex 0x12345) State.reset)).map State.pixIndex = some 0x2345 := by decide

theorem test_rdPixIndex : readOf .rdPixIndex { State.reset with pixIndex := 0x2345 } = some 0x2345 := by
  decide

/-- V-PIX-1, V-PIX-3 (the last index in range, the first out of it). -/
theorem test_wrPixData :
    (next? (exec (.wrPixData 0xFF0000FF) { State.reset with pixIndex := 3 })).map
      (fun t => (t.pix, t.dirty)) = some ([(3, 0x0000FF)], true) ∧
    next? (exec (.wrPixData 0xABCDEF) { State.reset with pixIndex := 4 }) =
      some { State.reset with pixIndex := 4, errRange := true } := by decide

/-- V-PIX-2, V-PIX-4. -/
theorem test_rdPixData :
    readOf .rdPixData { State.reset with pix := [(3, 0xFF)], pixIndex := 3 } = some 0xFF ∧
    readOf .rdPixData { State.reset with pix := [(4, 0xFF)], pixIndex := 4 } = some 0 := by decide

/-- V-CFG-16. -/
theorem test_rdPixFill : readOf .rdPixFill twoLeds = some 0 := by decide

/-- V-PIX-7, V-PIX-8. -/
theorem test_wrPixFill :
    (next? (exec (.wrPixFill 0x123456) { State.reset with pix := [(2, 1), (5, 9)] })).map State.pix =
      some [(0, 0x123456), (1, 0x123456), (2, 0x123456), (3, 0x123456), (5, 9)] ∧
    next? (exec (.wrPixFill 1) (State.powerOn Config.ez)) =
      some { State.powerOn Config.ez with dirty := true } := by decide

/-! ## Overlay -/

theorem test_wrOvColor :
    (next? (exec (.wrOvColor 0xFF00FF00) splashed)).map (fun t => (t.ovColorStg, t.ovColor)) =
      some (0x00FF00, 0xFF0000) := by decide

theorem test_rdOvColor : readOf .rdOvColor { splashed with ovColorStg := 0x123456 } = some 0x123456 := by
  decide

theorem test_wrOvCount :
    (next? (exec (.wrOvCount 0x10002) State.reset)).map State.ovCountStg = some 2 := by decide

theorem test_rdOvCount : readOf .rdOvCount { splashed with ovCountStg := 9 } = some 9 := by decide

theorem test_wrOvDuration :
    (next? (exec (.wrOvDuration 0xFFFFFFFF) State.reset)).map State.ovDurStg = some 0xFFFFFFFF := by
  decide

theorem test_rdOvDuration : readOf .rdOvDuration { splashed with ovDurStg := 9 } = some 9 := by decide

theorem test_rdOvStart : readOf .rdOvStart splashed = some 1000 := by decide

/-- V-CFG-15. -/
theorem test_wrOvStart : next? (exec (.wrOvStart 1) splashed) = some splashed := by decide

/-- V-OV-14. -/
theorem test_rdNow : readOf .rdNow { State.reset with nowUs := 0x50 } = some 0x50 := by decide

/-- V-CFG-15. -/
theorem test_wrNow : next? (exec (.wrNow 5) splashed) = some splashed := by decide

/-- S-E4: at 99999 µs the overlay stays, at 100000 µs the TICK clears it. -/
theorem test_overlay_expiry :
    statusAfter (.tick 1) { splashed with nowUs := 100999 } = some 0xD ∧
    statusAfter (.tick 1) { splashed with nowUs := 101000 } = some 0x9 := by decide

/-- V-OV-6, V-OV-7: the elapsed time wraps. -/
theorem test_elapsed_wraps :
    expired 0x60 { splashed with ovStart := 0xFFFFFFF0, ovDur := 100 } = true ∧
    expired 0x10 { splashed with ovStart := 0xFFFFFFF0, ovDur := 100 } = false := by decide

/-! ## Frame read-back, encoder, reserved addresses -/

/-- S-E7. -/
theorem test_rdFrameLen : readOf .rdFrameLen State.reset = some 39 := by decide

/-- V-CFG-15. -/
theorem test_wrFrameLen : next? (exec (.wrFrameLen 1) busy) = some busy := by decide

/-- V-TX13. -/
theorem test_wrFrameIndex :
    (next? (exec (.wrFrameIndex 0xFFFFFFFF) State.reset)).map State.frameIndex = some 0xFFFFF := by
  decide

/-- V-TX13. -/
theorem test_rdFrameIndex :
    readOf .rdFrameIndex { State.reset with frameIndex := 0xFFFFF } = some 0x000FFFFF := by decide

/-- V-TX12, V-TX13 (FRAME_CAP is 75 under EX). -/
theorem test_rdFrameData :
    readOf .rdFrameData { State.reset with frame := [(1, 0xDB)], frameIndex := 1 } = some 0xDB ∧
    readOf .rdFrameData { State.reset with frame := [(75, 0xDB)], frameIndex := 75 } = some 0 := by
  decide

/-- V-CFG-15. -/
theorem test_wrFrameData : next? (exec (.wrFrameData 0xFF) busy) = some busy := by decide

/-- V-ENC-1, V-ENC-2. -/
theorem test_rdEnc :
    readOf .rdEnc State.reset = some 0x00924924 ∧
    readOf .rdEnc { State.reset with encIn := 0x55 } = some 0x009A69A6 := by decide

/-- V-ENC-3. -/
theorem test_wrEnc : (next? (exec (.wrEnc 0x1FF) State.reset)).map State.encIn = some 0xFF := by decide

/-- V-ENC-4, and the corner vectors of V-ENC. -/
theorem test_enc_corners :
    symbolsValid 0x924924 = true ∧ symbolsValid 0xFFFFFF = false ∧ symbolsValid 0 = false ∧
    enc 0xAA = 0xD34D34 ∧ enc 0x80 = 0xD24924 ∧ dec 0x924926 = 0x01 := by decide

/-- V-TX4, V-TX6: one and nine shifter steps into a frame. -/
theorem test_rdTxPos :
    readOf .rdTxPos busy = some 0x07000000 ∧ readOf .rdTxPos (shiftSteps 9 busy) = some 0x06000001 ∧
    readOf .rdTxPos State.reset = some 0 := by decide

/-- V-CFG-15. -/
theorem test_wrTxPos : next? (exec (.wrTxPos 1) busy) = some busy := by decide

/-- V-CFG-17. -/
theorem test_rdRsv :
    readOf (.rdRsv12 0x12) busy = some 0 ∧ readOf (.rdRsv14 0x14) busy = some 0 ∧
    readOf (.rdRsv18 0x18) busy = some 0 ∧ readOf (.rdRsv20 0x3F) busy = some 0 := by decide

/-- V-CFG-18. -/
theorem test_wrRsv :
    next? (exec (.wrRsv12 0x13 1) busy) = some busy ∧ next? (exec (.wrRsv14 0x14 1) busy) = some busy ∧
    next? (exec (.wrRsv18 0x1F 1) busy) = some busy ∧
    next? (exec (.wrRsv20 0x3F 0xFFFFFFFF) busy) = some busy := by decide

/-! ## Transfers, turns, ports -/

/-- V-TX3r, V-TX10 (a zero-length frame is done at once). -/
theorem test_tick_reversed_and_empty :
    (frameAfter 21 (.tick 1) { twoLeds with reverse := true }).map (fun l => (l.drop 10).take 9) =
      some [0x92, 0x49, 0x24, 0xDB, 0x6D, 0xB6, 0x92, 0x49, 0x24] ∧
    statusAfter (.tick 1) { State.powerOn Config.ez with dirty := true } = some 0x100 := by decide

/-- V-TX8: the last cell of a frame. -/
theorem test_shift_last :
    let t := shiftStep { busy with txByte := 38, txBit := 0, irqEn := true }
    (t.txActive, t.done, irq t, t.txLen, t.txBit, t.trace) = (false, true, true, 0, 7, [false]) := by
  decide

/-- V-TX7: the phase boundaries, at byte 1 and byte 37. -/
theorem test_phases :
    phase busy = .lead ∧ phase { busy with txByte := 1 } = .payload ∧
    phase { busy with txByte := 36 } = .payload ∧ phase { busy with txByte := 37 } = .latch ∧
    phase State.reset = .idle := by decide

/-- The host's word placed at the port is the next step's (log 13). -/
theorem test_step_runs_fetch_word :
    step (State.reset.withFetchWord 40 0x0200000000) = .next { State.reset with q := some 0 } ∧
    step (State.reset.withFetchWord 40 0x4400000007) = .next { State.reset with errCmd := true } :=
  ⟨rfl, rfl⟩

/-- V-CFG-13: READY is low while the transaction is held, and the next host turn leaves it presented. -/
theorem test_held :
    let s := { busy with port := [0x4300000002], agenda := [.host] }
    ready s = false ∧ next? (step s) = some { s with agenda := [] } := by decide

/-- V-ERR-3: power-on reset drops a held transaction. -/
theorem test_powerOn :
    next? (step { busy with done := true, port := [0x4400000002, 0x0200000000], agenda := [.powerOn] }) =
      some { State.reset with port := [0x0200000000] } := by decide

/-- Without a granted turn the host moves first, then the shifter, then nobody (log 4). -/
theorem test_default_turns :
    nextTurn { busy with port := [0x0200000000] } = .host ∧
    nextTurn { busy with port := [0x4400000002] } = .shift ∧ nextTurn busy = .shift ∧
    nextTurn State.reset = .idle := by decide

/-- The expansion of SETPIX and CLRFLAGS (30_encoding.md R105), and the first lines of program P2. -/
theorem test_program :
    expand (.setpix 1 0x445566) = [0x4500000001, 0x4600445566] ∧ expand .clrflags = [0x4200000700] ∧
    (loadProgram [.pseudo (.setpix 0 0x112233), .atNow 200000, .shift 2] State.reset).agenda =
      [.host, .host, .time 200000, .shift, .shift] := by decide

/-- 70_reset_and_hazards.md R240: a frame of four LEDs under EX is 312 cells. -/
theorem test_frameCells : frameCells Config.ex 4 = 312 ∧ ledCycles Config.ex = 72 := by decide

/-! ## Witnesses: for every obligation with hypotheses, a state and operands that meet them together -/

/-- DecodeFollowsOpcodeMap: each row's pattern matches the row. -/
theorem witness_DecodeFollowsOpcodeMap : ∀ r ∈ opcodeTable, r.covers r.pattern = true := by decide

/-- EveryWordSelectsExactlyOneRow: two words with one selector, of CMD and of another register. -/
theorem witness_EveryWordSelectsExactlyOneRow :
    (0x4400000021#39).extractLsb' 32 7 = (0x4400000001#39).extractLsb' 32 7 ∧
    (0x4400000021#39).extractLsb' 0 4 = (0x4400000001#39).extractLsb' 0 4 ∧
    (0x4300000002#39).extractLsb' 32 7 = (0x4300000009#39).extractLsb' 32 7 ∧
    (0x4300000002#39).extractLsb' 32 7 ≠ 0x44#7 := by decide

/-- DecodeOfEncodeIsIdentity, and the ends of each reserved range. -/
theorem witness_DecodeOfEncodeIsIdentity :
    (Instr.tick 0x21).wf = true ∧ (Instr.cmdRsv4 7).wf = true ∧ (Instr.cmdRsv8 8).wf = true ∧
    (Instr.rdRsv12 0x12).wf = true ∧ (Instr.wrRsv12 0x13 0).wf = true ∧ (Instr.rdRsv14 0x17).wf = true ∧
    (Instr.wrRsv18 0x18 0).wf = true ∧ (Instr.rdRsv20 0x20).wf = true ∧
    (Instr.wrRsv20 0x3f 0).wf = true := by decide

/-- HostStepRunsDecodedTransaction. -/
theorem witness_HostStepRunsDecodedTransaction :
    let s := { busy with port := [0x4300000009], agenda := [.host] }
    nextTurn s = .host ∧ presented s = some 0x4300000009 ∧ waits (decode 0x4300000009) s = false ∧
    (0x7FFFFFFFFF < 2 ^ 39 ∧ waits (decode (BitVec.ofNat 39 0x7FFFFFFFFF)) busy = false) := by decide

/-- HeldTransactionWaitsAtThePort: a held write at the capacity, under each turn. -/
theorem witness_HeldTransactionWaitsAtThePort :
    let s := { busy with port := [0x4300000008] }
    presented s = some 0x4300000008 ∧ waits (decode 0x4300000008) s = true ∧
    nextTurn { s with agenda := [.host] } = .host ∧ nextTurn { s with agenda := [.shift] } = .shift ∧
    nextTurn { s with agenda := [.time 5] } = .time 5 := by decide

theorem busy_inv : Inv busy := by constructor <;> decide

/-- HeldTransactionIsPerformedAfterDrain: from the first cell and from the last. -/
theorem witness_HeldTransactionIsPerformedAfterDrain :
    (let s := { busy with port := [0x4400000002], agenda := List.replicate 312 .shift ++ [.host] }
    Inv s ∧ presented s = some 0x4400000002 ∧ waits (decode 0x4400000002) s = true ∧
    s.agenda = List.replicate (8 * s.txLen.toNat - cellsSent s) Turn.shift ++ Turn.host :: []) ∧
    (let s := { busy with port := [0x4400000002], agenda := [.shift, .host], txByte := 38, txBit := 0 }
    Inv s ∧ presented s = some 0x4400000002 ∧ waits (decode 0x4400000002) s = true ∧
    s.agenda = List.replicate (8 * s.txLen.toNat - cellsSent s) Turn.shift ++ Turn.host :: []) :=
  ⟨⟨by constructor <;> decide, rfl, rfl, rfl⟩, ⟨by constructor <;> decide, rfl, rfl, rfl⟩⟩

/-- TimeAndIdleTurnsLeaveTheBlock. -/
theorem witness_TimeAndIdleTurnsLeaveTheBlock :
    nextTurn { busy with agenda := [.time 7] } = .time 7 ∧ nextTurn { busy with agenda := [.idle] } = .idle ∧
    nextTurn { busy with agenda := [.host] } = .host ∧ presented { busy with agenda := [.host] } = none := by
  decide

/-- OnlyTickSplashAndNowReadSampleTime. -/
theorem witness_OnlyTickSplashAndNowReadSampleTime :
    (∀ d, Instr.wrEnc 5 ≠ .tick d) ∧ (∀ d, Instr.wrEnc 5 ≠ .splash d) ∧ Instr.wrEnc 5 ≠ .rdNow ∧
    exec (.wrEnc 5) State.reset = .next { State.reset with encIn := 5 } :=
  ⟨fun _ h => (by cases h), fun _ h => (by cases h), fun h => (by cases h), rfl⟩

/-- CtrlWrite and StatusWriteClearsStickyFlags: the clauses about IRQ. -/
theorem witness_IrqClauses :
    { State.reset with done := true }.done = true ∧ (2 : Word).getLsbD 1 = true ∧
    (0x100 : Word).getLsbD 8 = true := by decide

/-- PowerOnResetGivesResetValues and PowerOnResetLeavesTheEnvironment, with a transaction held and without. -/
theorem witness_PowerOnResetGivesResetValues :
    let s := { busy with port := [0x4400000002], agenda := [.powerOn] }
    nextTurn s = .powerOn ∧ ready s = false ∧ ready { s with port := [0x0200000000] } = true := by decide

/-- PowerOnStateMeetsInvariant: EX, EZ and the largest instance are legal. -/
theorem witness_PowerOnStateMeetsInvariant :
    Config.ex.valid ∧ Config.ez.valid ∧
    { Config.ex with
      maxLeds := 0xFFFF, resetLedCount := 0xFFFF, leadBytes := 0xFF, trailBytes := 0xFF }.valid := by
  decide

/-- StepKeepsInvariant. -/
theorem witness_StepKeepsInvariant :
    Inv { busy with agenda := [.shift] } ∧
    next? (step { busy with agenda := [.shift] }) = some { busy with txBit := 6, trace := [false] } :=
  ⟨by constructor <;> decide, by decide⟩

/-- A frame of one dark LED in flight, in canonical form. -/
def oneLed : State :=
  { State.reset with
    ledCount := 1
    txActive := true
    txLen := 12
    txCount := 1
    frame := [(1, 0x92), (2, 0x49), (3, 0x24), (4, 0x92), (5, 0x49), (6, 0x24), (7, 0x92), (8, 0x49),
      (9, 0x24)] }

theorem oneLed_inv : Inv oneLed := by constructor <;> decide

/-- StepKeepsPayloadSymbols. -/
theorem witness_StepKeepsPayloadSymbols :
    Inv oneLed ∧ PayloadValid oneLed ∧ nextTurn oneLed = .shift ∧ (next? (step oneLed)).isSome = true :=
  ⟨oneLed_inv, by unfold PayloadValid; decide, by decide, by decide⟩

/-- EncoderEmitsSymbolGroups, EncoderClosedForm, DecodedEncodingIsTheValue, ValidBlockIsAnEncoding. -/
theorem witness_Encoder :
    (0 < 8 ∧ 7 < 8) ∧ enc 0x55 = enc 0x55 ∧ symbolsValid 0xDB6DB6 = true ∧ symbolsValid 0x924924 = true := by
  decide

/-- LedCountWrite: the capacity and the count above it, idle and busy. -/
theorem witness_LedCountWrite :
    State.reset.params.maxLeds < (0x9 : Word).extractLsb' 0 16 ∧
    (0x10008 : Word).extractLsb' 0 16 ≤ State.reset.params.maxLeds ∧ State.reset.txActive = false ∧
    (0x8 : Word).extractLsb' 0 16 ≤ busy.params.maxLeds ∧ busy.txActive = true := by decide

/-- WritesWithoutEffect and WriteOnlyAndReservedReadsReturnZero. -/
theorem witness_WritesWithoutEffect :
    Instr.wrRsv20 0x3f 7 ∈ [Instr.wrCaps 7, .wrNow 7, .wrFrameLen 7, .wrFrameData 7, .wrOvStart 7, .wrTxPos 7,
      .wrRsv12 0x3f 7, .wrRsv14 0x3f 7, .wrRsv18 0x3f 7, .wrRsv20 0x3f 7, .nop 7] ∧
    Instr.rdRsv12 0x12 ∈ [Instr.rdCmd, .rdPixFill, .rdRsv12 0x12, .rdRsv14 0x12, .rdRsv18 0x12,
      .rdRsv20 0x12] := by decide

/-- PixDataWrite and PixDataRead: the last index in range and the first out of it. -/
theorem witness_PixData :
    Memory.wf twoLeds.pix ∧ { twoLeds with pixIndex := 1 }.pixIndex < twoLeds.ledCount ∧
    twoLeds.ledCount ≤ { twoLeds with pixIndex := 2 }.pixIndex := by decide

/-- OverlayExpiryPredicate: duration 0. -/
theorem witness_OverlayExpiryPredicate :
    { splashed with ovDur := 0 }.ovActive = true ∧ { splashed with ovDur := 0 }.ovDur = 0 ∧
    expired 1000 { splashed with ovDur := 0 } = true := by decide

/-- ActiveOverlayHidesPixelStore: the last time at which the overlay is not expired. -/
theorem witness_ActiveOverlayHidesPixelStore :
    { splashed with nowUs := 100999 }.ovActive = true ∧
    expired 100999 { splashed with nowUs := 100999 } = false := by decide

/-- TickGate: busy with an expired overlay and without, and nothing to do. -/
theorem witness_TickGate :
    { busy with ovActive := true }.txActive = true ∧ expired 0 { busy with ovActive := true } = true ∧
    expired 0 busy = false ∧ State.reset.dirty = false ∧ expired State.reset.nowUs State.reset = false ∧
    ¬ tickRenders { splashed with txActive := true, nowUs := 101000 } := by
  unfold tickRenders; decide

/-- TickIssuesOneTransfer: a frame with bytes and one without. -/
theorem witness_TickIssuesOneTransfer :
    (tickRenders twoLeds ∧ 0 < frameLen twoLeds.params twoLeds.ledCount.toNat) ∧
    tickRenders { State.powerOn Config.ez with dirty := true } ∧
    frameLen Config.ez 0 = 0 ∧ tickRenders { splashed with dirty := false, nowUs := 101000 } := by
  unfold tickRenders; decide

theorem twoLeds_inv : Inv twoLeds := by constructor <;> decide

/-- TickWritesTheFrameLayout, ReversedFrameMirrorsNormalFrame, TickSendsTheCellStream: both ends of the strip
and of the zero bytes around it. -/
theorem witness_TickWritesTheFrame :
    Inv twoLeds ∧ tickRenders twoLeds ∧ 0 < frameLen twoLeds.params twoLeds.ledCount.toNat ∧
    (0 < twoLeds.ledCount.toNat ∧ 1 < twoLeds.ledCount.toNat) ∧
    0 < twoLeds.params.leadBytes.toNat ∧
    twoLeds.params.leadBytes.toNat + 9 * twoLeds.ledCount.toNat ≤ 19 :=
  ⟨twoLeds_inv, by unfold tickRenders; decide, by decide, by decide, by decide, by decide⟩

/-- SlotIsABijection: both ends of the strip. -/
theorem witness_SlotIsABijection : 0 < twoLeds.ledCount.toNat ∧ 1 < twoLeds.ledCount.toNat := by decide

/-- ResetCommand. -/
theorem witness_ResetCommand : splashed.txActive = false ∧ busy.txActive = true := by decide

/-- ShifterSendsOneCell: idle, inside a byte, between bytes, at the end. -/
theorem witness_ShifterSendsOneCell :
    nextTurn { State.reset with agenda := [.shift] } = .shift ∧ State.reset.txActive = false ∧
    nextTurn busy = .shift ∧ busy.txActive = true ∧ 0 < { busy with txBit := 1 }.txBit.toNat ∧
    { busy with txBit := 0 }.txByte.toNat + 1 < busy.txLen.toNat ∧
    busy.txLen.toNat ≤ { busy with txByte := 38, txBit := 0 }.txByte.toNat + 1 := by decide

/-- PhaseFollowsPositionAndLineIsLowOutsidePayload and TransferSendsItsFrameInOrder. -/
theorem witness_Transfer : Inv oneLed ∧ oneLed.txActive = true ∧ 95 < 8 * oneLed.txLen.toNat - cellsSent oneLed ∧
    phase oneLed ≠ .payload :=
  ⟨oneLed_inv, by decide, by decide, by decide⟩

/-- FrameIsNotWrittenDuringATransfer: a TICK that changes the frame, and a step during a transfer. -/
theorem witness_FrameIsNotWrittenDuringATransfer :
    let s := { twoLeds with port := [0x4400000001], agenda := [.host] }
    nextTurn s ≠ .powerOn ∧ (next? (step s)).map (fun t => decide (t.frame ≠ s.frame)) = some true ∧
    nextTurn busy ≠ .powerOn ∧ busy.txActive = true ∧ (next? (step busy)).isSome = true := by decide

/-- NoStepCancelsATransfer: a step inside a transfer, and its last one. -/
theorem witness_NoStepCancelsATransfer :
    Inv oneLed ∧ Inv { oneLed with txByte := 11, txBit := 0 } ∧ oneLed.txActive = true ∧
    (next? (step oneLed)).isSome = true ∧ nextTurn oneLed ≠ .powerOn :=
  ⟨oneLed_inv, by constructor <;> decide, by decide, by decide, by decide⟩

/-- IrqFollowsDoneAndEnable: the last step of a transfer, and the two writes. -/
theorem witness_IrqFollowsDoneAndEnable :
    let s := { busy with txByte := 38, txBit := 0, irqEn := true }
    nextTurn s = .shift ∧ s.txActive = true ∧ (next? (step s)).map State.txActive = some false ∧
    (next? (exec (.wrStatus 0x100) s)).isSome = true ∧ (next? (exec (.wrCtrl 2) s)).isSome = true := by decide

/-- FrameAndShifterReadBack: the last byte of the buffer and the first index beyond it. -/
theorem witness_FrameAndShifterReadBack :
    { State.reset with frameIndex := 74 }.frameIndex.toNat < frameCap State.reset.params ∧
    frameCap State.reset.params ≤ { State.reset with frameIndex := 75 }.frameIndex.toNat ∧
    State.reset.txActive = false ∧ (Inv busy ∧ busy.txActive = true) :=
  ⟨by decide, by decide, by decide, busy_inv, by decide⟩

/-- ReadsHaveNoSideEffect. -/
theorem witness_ReadsHaveNoSideEffect :
    (0x3FFFFFFFFF#39).getLsbD 38 = false ∧ (0x0000000000#39).getLsbD 38 = false := by decide

/-- WhatSetsAndClearsDirty: a transaction that clears it, and one that sets it. -/
theorem witness_WhatSetsAndClearsDirty :
    (twoLeds.dirty = true ∧ (next? (exec (.tick 1) twoLeds)).map State.dirty = some false) ∧
    State.reset.dirty = false ∧ (next? (exec (.wrCtrl 1) State.reset)).map State.dirty = some true := by decide

/-- CausesOfTheErrorFlags: each cause at the ends of its range. -/
theorem witness_CausesOfTheErrorFlags :
    State.reset.errRange = false ∧ State.reset.errCmd = false ∧
    (next? (exec (decode 0x4300000008#39) State.reset)).map State.errRange = some false ∧
    (next? (exec (decode 0x4300000009#39) State.reset)).map State.errRange = some true ∧
    (next? (exec (decode 0x4600000000#39) { State.reset with pixIndex := 3 })).map State.errRange =
      some false ∧
    (next? (exec (decode 0x4600000000#39) { State.reset with pixIndex := 4 })).map State.errRange =
      some true ∧
    (next? (exec (decode 0x4400000003#39) State.reset)).map State.errCmd = some false ∧
    (next? (exec (decode 0x4400000004#39) State.reset)).map State.errCmd = some true ∧
    State.reset.ledCount ≤ { State.reset with pixIndex := 4 }.pixIndex ∧
    frameCap State.reset.params ≤ { State.reset with frameIndex := 75 }.frameIndex.toNat := by decide

/-- StickyFlagsStayUntilCleared. -/
theorem witness_StickyFlagsStayUntilCleared :
    let s := { busy with done := true, errRange := true, errCmd := true }
    (next? (exec (.wrStatus 0x700) s)).map (fun t => (t.done, t.errRange, t.errCmd)) =
      some (false, false, false) ∧
    (next? (step s)).isSome = true ∧ nextTurn s ≠ .host ∧ nextTurn s ≠ .powerOn := by decide

/-- TransactionFrame: a transaction that is none of those that set or clear dirty. -/
theorem witness_TransactionFrame_dirty :
    (∀ d, Instr.wrEnc 5 ≠ .wrCtrl d) ∧ (∀ d, Instr.wrEnc 5 ≠ .wrLedCount d) ∧
    (∀ d, Instr.wrEnc 5 ≠ .wrPixData d) ∧ (∀ d, Instr.wrEnc 5 ≠ .wrPixFill d) ∧
    (∀ d, Instr.wrEnc 5 ≠ .splash d) ∧ (∀ d, Instr.wrEnc 5 ≠ .tick d) ∧
    (∀ d, Instr.wrEnc 5 ≠ .reset d) ∧
    exec (.wrEnc 5) State.reset = .next { State.reset with encIn := 5 } := by
  refine ⟨?_, ?_, ?_, ?_, ?_, ?_, ?_, rfl⟩ <;> exact fun _ h => nomatch h

/-- TransactionFrame: the clauses with conditions, each met by a transaction. -/
theorem witness_TransactionFrame :
    (next? (exec (.wrPixData 7) twoLeds)).isSome = true ∧ Memory.wf twoLeds.pix ∧
    (next? (exec (.wrPixFill 7) twoLeds)).isSome = true ∧ twoLeds.ledCount.toNat ≤ 2 ∧
    (next? (exec (.reset 2) twoLeds)).isSome = true ∧ twoLeds.params.maxLeds.toNat ≤ 8 ∧
    ¬ tickRenders State.reset ∧ (encode (.tick 1)).getLsbD 38 = true := by
  unfold tickRenders; decide

end Sys2Proof.Tests
end

/-! ## The effect of a transaction, as an inductive predicate -/

section

namespace Sys2Proof.Machine

/-- What a performed transaction does to the state `s`, a constructor per effect: the cases of `exec_cases`,
with TICK taken apart by `tick_cases`, so that a proof names the rows it is about (`exec_effect`). -/
inductive Effect (s : State) : Instr → State → Prop where
  | read {i : Instr} (v : Word) (hwe : (encode i).getLsbD 38 = false) : Effect s i { s with q := some v }
  | nothing {i : Instr} (hi : ∀ d, i ≠ .tick d) : Effect s i s
  | ctrl (d : Word) : Effect s (.wrCtrl d) { s with
      reverse := d.getLsbD 0
      irqEn := d.getLsbD 1
      dirty := if d.getLsbD 0 = s.reverse then s.dirty else true }
  | status (d : Word) : Effect s (.wrStatus d) { s with
      done := w1c s.done (d.getLsbD 8)
      errRange := w1c s.errRange (d.getLsbD 9)
      errCmd := w1c s.errCmd (d.getLsbD 10) }
  | ledCountError (d : Word) : Effect s (.wrLedCount d) { s with errRange := true }
  | ledCount (d : Word) (hd : (field16 d).toNat ≤ s.params.maxLeds.toNat) (ht : s.txActive = false) :
      Effect s (.wrLedCount d) { s with ledCount := field16 d, dirty := true }
  | tickIssue (d : Word) (hr : tickRenders s) (hl : 0 < frameLen s.params s.ledCount.toNat) :
      Effect s (.tick d) { s with
        ovActive := s.ovActive && !expired s.nowUs s
        dirty := false
        frame := renderedFrame (expireOverlay s.nowUs s)
        txActive := true
        txLen := BitVec.ofNat 20 (frameLen s.params s.ledCount.toNat)
        txCount := s.ledCount
        txByte := 0
        txBit := 7 }
  | tickEmpty (d : Word) (hr : tickRenders s) : Effect s (.tick d) { s with
      ovActive := s.ovActive && !expired s.nowUs s
      dirty := false
      frame := renderedFrame (expireOverlay s.nowUs s)
      done := true }
  | tickGated (d : Word) (hr : ¬ tickRenders s) : Effect s (.tick d) { s with
      ovActive := s.ovActive && !expired s.nowUs s
      dirty := s.dirty || expired s.nowUs s }
  | reset (d : Word) (ht : s.txActive = false) : Effect s (.reset d) { s with
      pix := Memory.clearBelow s.params.maxLeds.toNat s.pix
      ovActive := false
      ovColor := 0
      ovCount := 0
      ovDur := 0
      ovStart := 0
      ovColorStg := 0
      ovCountStg := 0
      ovDurStg := 0
      dirty := true }
  | splash (d : Word) : Effect s (.splash d) { s with
      ovColor := s.ovColorStg
      ovCount := s.ovCountStg
      ovDur := s.ovDurStg
      ovStart := s.nowUs
      ovActive := true
      dirty := true }
  | cmdRsv4 (d : Word) : Effect s (.cmdRsv4 d) { s with errCmd := true }
  | cmdRsv8 (d : Word) : Effect s (.cmdRsv8 d) { s with errCmd := true }
  | pixIndex (d : Word) : Effect s (.wrPixIndex d) { s with pixIndex := field16 d }
  | pixData (d : Word) (hp : s.pixIndex.toNat < s.ledCount.toNat) : Effect s (.wrPixData d) { s with
      pix := Memory.write s.pix s.pixIndex.toNat (fieldRgb d)
      dirty := true }
  | pixDataError (d : Word) : Effect s (.wrPixData d) { s with errRange := true }
  | pixFill (d : Word) : Effect s (.wrPixFill d) { s with
      pix := Memory.fillBelow s.ledCount.toNat (fieldRgb d) s.pix
      dirty := true }
  | ovColor (d : Word) : Effect s (.wrOvColor d) { s with ovColorStg := fieldRgb d }
  | ovCount (d : Word) : Effect s (.wrOvCount d) { s with ovCountStg := field16 d }
  | ovDuration (d : Word) : Effect s (.wrOvDuration d) { s with ovDurStg := d }
  | frameIndex (d : Word) : Effect s (.wrFrameIndex d) { s with frameIndex := field20 d }
  | enc (d : Word) : Effect s (.wrEnc d) { s with encIn := fieldByte d }

/-- TICK is one of its three effects. -/
theorem tick_effect (d : Word) (s : State) :
    Effect s (.tick d) (renderIfDue (expireOverlay s.nowUs s)) := by
  rcases tick_cases s with ⟨hr, hl, h⟩ | ⟨hr, -, h⟩ | ⟨hr, h⟩ <;> rw [h]
  · exact .tickIssue d hr hl
  · exact .tickEmpty d hr
  · exact .tickGated d hr

/-- Every transaction that answers a next state has one of the effects. -/
theorem exec_effect {i : Instr} {s t : State} (h : exec i s = .next t) : Effect s i t := by
  rcases exec_cases h with ⟨hwe, v, rfl⟩ | ⟨hi, rfl⟩ | ⟨d, rfl, rfl⟩ | ⟨d, rfl, rfl⟩ |
    ⟨d, rfl, -, rfl⟩ | ⟨d, rfl, hd, ht, rfl⟩ | ⟨d, rfl, rfl⟩ | ⟨d, rfl, ht, rfl⟩ | ⟨d, rfl, rfl⟩ |
    ⟨d, rfl | rfl, rfl⟩ | ⟨d, rfl, rfl⟩ | ⟨d, rfl, hp, rfl⟩ | ⟨d, rfl, -, rfl⟩ | ⟨d, rfl, rfl⟩ |
    ⟨d, rfl, rfl⟩ | ⟨d, rfl, rfl⟩ | ⟨d, rfl, rfl⟩ | ⟨d, rfl, rfl⟩ | ⟨d, rfl, rfl⟩
  · exact .read v hwe
  · exact .nothing hi
  · exact .ctrl d
  · exact .status d
  · exact .ledCountError d
  · exact .ledCount d (of_decide_eq_true hd) ht
  · exact tick_effect d s
  · exact .reset d ht
  · exact .splash d
  · exact .cmdRsv4 d
  · exact .cmdRsv8 d
  · exact .pixIndex d
  · exact .pixData d (of_decide_eq_true hp)
  · exact .pixDataError d
  · exact .pixFill d
  · exact .ovColor d
  · exact .ovCount d
  · exact .ovDuration d
  · exact .frameIndex d
  · exact .enc d

end Sys2Proof.Machine

end

/-! ## The state invariant -/

section

namespace Sys2Proof.Machine

/-- The state after power-on reset meets the invariant, for every legal choice of the parameters. -/
theorem powerOn_inv {p : Params} (hp : p.valid) : Inv (State.powerOn p) where
  params_valid := hp
  count_le := hp.2.1
  idle _ := ⟨rfl, rfl, rfl, rfl⟩
  busy h := nomatch h
  pix_wf := ⟨.nil, fun _ hc => nomatch hc⟩
  pix_lt _ hc := nomatch hc
  frame_wf := ⟨.nil, fun _ hc => nomatch hc⟩
  frame_lt _ hc := nomatch hc
  frame_ge _ hc := nomatch hc
  frame_busy h := nomatch h

/-- RST_N keeps the invariant: what the block does not hold plays no part in it. -/
theorem powerOnReset_keeps_inv {s : State} (h : Inv s) : Inv (powerOnReset s) :=
  { powerOn_inv h.params_valid with }

/-- A performed LED_COUNT write: the shifter is at rest, so no count in flight can differ. -/
theorem setLedCount_keeps_inv {s : State} (h : Inv s) (ht : s.txActive = false) {n : BitVec 16}
    (hn : n.toNat ≤ s.params.maxLeds.toNat) : Inv { s with ledCount := n } :=
  { h with
    count_le := hn
    busy := fun hb => absurd hb (by simp [ht]) }

/-- A new pixel store in canonical form and within MAX_LEDS. -/
theorem setPix_keeps_inv {s : State} (h : Inv s) {m : Memory 24} (hwf : Memory.wf m)
    (hlt : ∀ c ∈ m, c.1 < s.params.maxLeds.toNat) : Inv { s with pix := m } :=
  { h with pix_wf := hwf, pix_lt := hlt }

/-- The rendered frame lists entries of the payload region alone (20_memory.md R62): the clear reaches every
index below FRAME_CAP, and each LED block lies in a slot below LED_COUNT. -/
theorem mem_renderedFrame {s : State} (hb : ∀ c ∈ s.frame, c.1 < frameCap s.params)
    {c : Nat × BitVec 8} (hc : c ∈ renderedFrame s) :
    s.params.leadBytes.toNat ≤ c.1 ∧ c.1 < s.params.leadBytes.toNat + 9 * s.ledCount.toNat := by
  rcases mem_foldl_renderLed hc with ⟨i, hi, hge, hlt⟩ | hold
  · have hsl := slot_lt (List.mem_range.mp hi)
    omega
  · obtain ⟨hmem, hcap⟩ := Memory.mem_clearBelow.mp hold
    have := hb c hmem
    omega

/-- Under the invariant no frame entry lies at or above FRAME_CAP. -/
theorem Inv.frame_lt_frameCap {s : State} (h : Inv s) : ∀ c ∈ s.frame, c.1 < frameCap s.params := by
  intro c hc
  have := h.frame_lt c hc
  unfold frameCap frameLen
  omega

/-- What a TICK renders, after its expiry step, is in canonical form and within the payload region. -/
theorem rendered_wf_and_within {s : State} (h : Inv s) (now : Word) :
    Memory.wf (renderedFrame (expireOverlay now s)) ∧
    ∀ c ∈ renderedFrame (expireOverlay now s),
      s.params.leadBytes.toNat ≤ c.1 ∧ c.1 < s.params.leadBytes.toNat + 9 * s.ledCount.toNat := by
  rw [expireOverlay_eq]
  exact ⟨wf_renderedFrame h.frame_wf,
    fun _ hc => (mem_renderedFrame (by exact h.frame_lt_frameCap) hc :)⟩

/-- A new frame in canonical form and within the payload region, while the shifter is at rest. -/
theorem setFrame_keeps_inv {s : State} (h : Inv s) (ht : s.txActive = false) {m : Memory 8}
    (hm : Memory.wf m ∧ ∀ c ∈ m,
      s.params.leadBytes.toNat ≤ c.1 ∧ c.1 < s.params.leadBytes.toNat + 9 * s.ledCount.toNat) :
    Inv { s with frame := m } :=
  { h with
    frame_wf := hm.1
    frame_ge := fun c hc => (hm.2 c hc).1
    frame_lt := fun c hc => Nat.lt_of_lt_of_le (hm.2 c hc).2 (by have := h.count_le; simpa)
    frame_busy := fun hb => absurd hb (by simp [ht]) }

/-- A transfer of LED_COUNT LEDs starts: the shifter stands at byte 0, inside a frame of at least one byte. -/
theorem startTransfer_keeps_inv {s : State} (h : Inv s)
    (hl : 0 < frameLen s.params s.ledCount.toNat)
    (hf : ∀ c ∈ s.frame, c.1 < s.params.leadBytes.toNat + 9 * s.ledCount.toNat) :
    Inv { s with
      txActive := true
      txLen := BitVec.ofNat 20 (frameLen s.params s.ledCount.toNat)
      txCount := s.ledCount
      txByte := 0
      txBit := 7 } :=
  { h with
    idle := fun hi => nomatch hi
    busy := fun _ => ⟨by rw [frameLen_toNat]; exact hl, frameLen_toNat _ _, rfl⟩
    frame_busy := fun _ => hf }

/-- Every transaction keeps the invariant. -/
theorem exec_keeps_inv {i : Instr} {s t : State} (h : Inv s) (hx : exec i s = .next t) : Inv t := by
  cases exec_effect hx with
  | ledCount d hd ht => exact { setLedCount_keeps_inv h ht hd with }
  | tickIssue d hr hl =>
    have hm := rendered_wf_and_within h s.nowUs
    have hf := setFrame_keeps_inv h hr.2 hm
    exact { startTransfer_keeps_inv hf hl fun c hc => (hm.2 c hc).2 with }
  | tickEmpty d hr =>
    exact { setFrame_keeps_inv h hr.2 (rendered_wf_and_within h s.nowUs) with }
  | reset d ht =>
    exact
      { setPix_keeps_inv h (Memory.wf_clearBelow h.pix_wf _)
          fun c hc => h.pix_lt c (Memory.mem_clearBelow.mp hc).1 with }
  | pixData d hp =>
    have hlt : ∀ c ∈ Memory.write s.pix s.pixIndex.toNat (fieldRgb d),
        c.1 < s.params.maxLeds.toNat := by
      intro c hc
      rcases Memory.mem_write hc with rfl | hc
      · exact Nat.lt_of_lt_of_le hp h.count_le
      · exact h.pix_lt c hc
    exact { setPix_keeps_inv h (Memory.wf_write h.pix_wf _ _) hlt with }
  | pixFill d =>
    have hlt : ∀ c ∈ Memory.fillBelow s.ledCount.toNat (fieldRgb d) s.pix,
        c.1 < s.params.maxLeds.toNat := by
      intro c hc
      rcases Memory.mem_fillBelow hc with hc | hc
      · exact Nat.lt_of_lt_of_le hc h.count_le
      · exact h.pix_lt c hc
    exact { setPix_keeps_inv h (Memory.wf_fillBelow h.pix_wf _ _) hlt with }
  | _ => exact { h with }

/-- The host port's step keeps the invariant: the port's list plays no part in it. -/
theorem hostStep_keeps_inv {s t : State} (h : Inv s) (hx : hostStep s = .next t) : Inv t := by
  rcases hostStep_cases s with ⟨-, e⟩ | ⟨T, -, -, e⟩ | ⟨T, -, -, e⟩ <;> rw [e] at hx
  · cases hx; exact h
  · cases hx; exact h
  · have ha : Inv (accept s) := { h with }
    exact exec_keeps_inv ha hx

/-- A shifter step keeps the invariant: it moves one cell on inside the frame, or ends at rest. -/
theorem shiftStep_keeps_inv {s : State} (h : Inv s) : Inv (shiftStep s) := by
  rcases shiftStep_cases s with ⟨-, e⟩ | ⟨ht, -, e⟩ | ⟨ht, -, hlt, e⟩ | ⟨-, -, -, e⟩ <;> rw [e]
  · exact h
  · exact { h with idle := fun hi => absurd hi (by simp [ht]) }
  · obtain ⟨-, hlen, hcount⟩ := h.busy ht
    have hbyte : (s.txByte + 1).toNat = s.txByte.toNat + 1 := by
      have := s.txLen.isLt
      rw [BitVec.toNat_add]
      exact Nat.mod_eq_of_lt (by simp; omega)
    exact
      { h with
        idle := fun hi => absurd hi (by simp [ht])
        busy := fun _ => ⟨hbyte.symm ▸ hlt, hlen, hcount⟩ }
  · exact
      { h with
        idle := fun _ => ⟨rfl, rfl, rfl, rfl⟩
        busy := fun hb => nomatch hb
        frame_busy := fun hb => nomatch hb }

/-- Settles O15: the memories are empty and the shifter is at rest after power-on reset. -/
theorem powerOnStateMeetsInvariant : Obligations.PowerOnStateMeetsInvariant :=
  ⟨fun _ hp => powerOn_inv hp, powerOn_inv (by decide)⟩

/-- Settles O16, by the agent that moves: each keeps the invariant, and a used-up turn plays no part in it. -/
theorem stepKeepsInvariant : Obligations.StepKeepsInvariant := by
  intro s t h hs
  have hst : Inv (startTurn s) := { h with }
  rcases step_cases hs with ⟨-, hx⟩ | ⟨-, rfl⟩ | ⟨now, -, rfl⟩ | ⟨-, rfl⟩ | ⟨-, rfl⟩
  · exact hostStep_keeps_inv hst hx
  · exact shiftStep_keeps_inv hst
  · exact { hst with }
  · exact powerOnReset_keeps_inv hst
  · exact hst

end Sys2Proof.Machine

end

/-! ## The frame of a transaction, field by field -/

section

namespace Sys2Proof.Machine

variable {i : Instr} {s t : State}

/-- No transaction changes what is not the block's. -/
theorem exec_environment (h : exec i s = .next t) :
    t.params = s.params ∧ t.nowUs = s.nowUs ∧ t.port = s.port ∧ t.agenda = s.agenda ∧
      t.trace = s.trace := by
  cases exec_effect h <;> exact ⟨rfl, rfl, rfl, rfl, rfl⟩

theorem exec_ledCount (h : exec i s = .next t) (hi : ∀ d, i ≠ .wrLedCount d) :
    t.ledCount = s.ledCount := by
  cases exec_effect h with
  | ledCount d => exact absurd rfl (hi d)
  | _ => rfl

theorem exec_control (h : exec i s = .next t) (hi : ∀ d, i ≠ .wrCtrl d) :
    t.reverse = s.reverse ∧ t.irqEn = s.irqEn := by
  cases exec_effect h with
  | ctrl d => exact absurd rfl (hi d)
  | _ => exact ⟨rfl, rfl⟩

/-- The ways a transaction that performs in state `s` sets dirty (10_state.md R24). -/
def SetsDirty (s : State) (i : Instr) : Prop :=
  (∃ d, i = .wrCtrl d ∧ d.getLsbD 0 ≠ s.reverse) ∨
  (∃ d, i = .wrLedCount d ∧ s.txActive = false ∧ d.extractLsb' 0 16 ≤ s.params.maxLeds) ∨
  (∃ d, i = .wrPixData d ∧ s.pixIndex < s.ledCount) ∨
  (∃ d, i = .wrPixFill d) ∨
  (∃ d, i = .splash d) ∨
  (∃ d, i = .tick d ∧ expired s.nowUs s = true ∧ s.txActive = true) ∨
  (∃ d, i = .reset d ∧ s.txActive = false)

/-- A TICK that expires the overlay and does not render is performed while a transfer is in flight. -/
theorem busy_of_expired_of_not_renders (hr : ¬ tickRenders s) (hx : expired s.nowUs s = true) :
    s.txActive = true := by
  cases ht : s.txActive with
  | false => exact absurd ⟨.inr hx, ht⟩ hr
  | true => rfl

/-- Dirty after a transaction: as before, cleared by a TICK that renders, or set by a named mutation. -/
theorem exec_dirty (h : exec i s = .next t) :
    t.dirty = s.dirty ∨
    (t.dirty = false ∧ (∃ d, i = .tick d) ∧ tickRenders s) ∨
    (t.dirty = true ∧ SetsDirty s i) := by
  cases exec_effect h with
  | ctrl d =>
    by_cases hd : d.getLsbD 0 = s.reverse
    · exact .inl (if_pos hd)
    · exact .inr (.inr ⟨if_neg hd, .inl ⟨d, rfl, hd⟩⟩)
  | ledCount d hd ht =>
    have hle : d.extractLsb' 0 16 ≤ s.params.maxLeds := hd
    exact .inr (.inr ⟨rfl, by simp [SetsDirty, ht, hle]⟩)
  | pixData d hp =>
    have hlt : s.pixIndex < s.ledCount := hp
    exact .inr (.inr ⟨rfl, by simp [SetsDirty, hlt]⟩)
  | pixFill d => exact .inr (.inr ⟨rfl, by simp [SetsDirty]⟩)
  | splash d => exact .inr (.inr ⟨rfl, by simp [SetsDirty]⟩)
  | tickIssue d hr => exact .inr (.inl ⟨rfl, ⟨d, rfl⟩, hr⟩)
  | tickEmpty d hr => exact .inr (.inl ⟨rfl, ⟨d, rfl⟩, hr⟩)
  | tickGated d hr =>
    cases hx : expired s.nowUs s with
    | false => exact .inl (Bool.or_false _)
    | true =>
      have hb := busy_of_expired_of_not_renders hr hx
      exact .inr (.inr ⟨Bool.or_true _, by simp [SetsDirty, hx, hb]⟩)
  | reset d ht => exact .inr (.inr ⟨rfl, by simp [SetsDirty, ht]⟩)
  | _ => exact .inl rfl

theorem exec_done (h : exec i s = .next t) (hs : ∀ d, i ≠ .wrStatus d) (hk : ∀ d, i ≠ .tick d) :
    t.done = s.done := by
  cases exec_effect h with
  | status d => exact absurd rfl (hs d)
  | tickEmpty d => exact absurd rfl (hk d)
  | _ => rfl

theorem exec_errRange (h : exec i s = .next t) (hs : ∀ d, i ≠ .wrStatus d)
    (hc : ∀ d, i ≠ .wrLedCount d) (hp : ∀ d, i ≠ .wrPixData d) : t.errRange = s.errRange := by
  cases exec_effect h with
  | status d => exact absurd rfl (hs d)
  | ledCountError d => exact absurd rfl (hc d)
  | pixDataError d => exact absurd rfl (hp d)
  | _ => rfl

theorem exec_errCmd (h : exec i s = .next t) (hs : ∀ d, i ≠ .wrStatus d)
    (h4 : ∀ d, i ≠ .cmdRsv4 d) (h8 : ∀ d, i ≠ .cmdRsv8 d) : t.errCmd = s.errCmd := by
  cases exec_effect h with
  | status d => exact absurd rfl (hs d)
  | cmdRsv4 d => exact absurd rfl (h4 d)
  | cmdRsv8 d => exact absurd rfl (h8 d)
  | _ => rfl

theorem exec_pixIndex (h : exec i s = .next t) (hi : ∀ d, i ≠ .wrPixIndex d) :
    t.pixIndex = s.pixIndex := by
  cases exec_effect h with
  | pixIndex d => exact absurd rfl (hi d)
  | _ => rfl

theorem exec_frameIndex (h : exec i s = .next t) (hi : ∀ d, i ≠ .wrFrameIndex d) :
    t.frameIndex = s.frameIndex := by
  cases exec_effect h with
  | frameIndex d => exact absurd rfl (hi d)
  | _ => rfl

theorem exec_encIn (h : exec i s = .next t) (hi : ∀ d, i ≠ .wrEnc d) : t.encIn = s.encIn := by
  cases exec_effect h with
  | enc d => exact absurd rfl (hi d)
  | _ => rfl

/-- The staging registers: each has its own write, and RESET zeroes all three. -/
theorem exec_staging (h : exec i s = .next t) (hr : ∀ d, i ≠ .reset d) :
    ((∀ d, i ≠ .wrOvColor d) → t.ovColorStg = s.ovColorStg) ∧
    ((∀ d, i ≠ .wrOvCount d) → t.ovCountStg = s.ovCountStg) ∧
    ((∀ d, i ≠ .wrOvDuration d) → t.ovDurStg = s.ovDurStg) := by
  cases exec_effect h with
  | reset d => exact absurd rfl (hr d)
  | ovColor d => exact ⟨fun hi => absurd rfl (hi d), fun _ => rfl, fun _ => rfl⟩
  | ovCount d => exact ⟨fun _ => rfl, fun hi => absurd rfl (hi d), fun _ => rfl⟩
  | ovDuration d => exact ⟨fun _ => rfl, fun _ => rfl, fun hi => absurd rfl (hi d)⟩
  | _ => exact ⟨fun _ => rfl, fun _ => rfl, fun _ => rfl⟩

/-- The overlay itself: SPLASH and RESET alone set its four values. -/
theorem exec_overlay (h : exec i s = .next t) (hr : ∀ d, i ≠ .reset d) (hs : ∀ d, i ≠ .splash d) :
    t.ovColor = s.ovColor ∧ t.ovCount = s.ovCount ∧ t.ovDur = s.ovDur ∧ t.ovStart = s.ovStart := by
  cases exec_effect h with
  | reset d => exact absurd rfl (hr d)
  | splash d => exact absurd rfl (hs d)
  | _ => exact ⟨rfl, rfl, rfl, rfl⟩

theorem exec_ovActive (h : exec i s = .next t) (hr : ∀ d, i ≠ .reset d) (hs : ∀ d, i ≠ .splash d)
    (hk : ∀ d, i ≠ .tick d) : t.ovActive = s.ovActive := by
  cases exec_effect h with
  | reset d => exact absurd rfl (hr d)
  | splash d => exact absurd rfl (hs d)
  | tickIssue d => exact absurd rfl (hk d)
  | tickEmpty d => exact absurd rfl (hk d)
  | tickGated d => exact absurd rfl (hk d)
  | _ => rfl

/-- Every TICK runs the expiry step (44_transfer_engine.md R171). -/
theorem tick_ovActive {d : Word} (h : exec (.tick d) s = .next t) :
    t.ovActive = (s.ovActive && !expired s.nowUs s) := by
  cases exec_effect h with
  | read v hwe => exact absurd ((we_wrTxn _ d).symm.trans hwe) (by decide)
  | nothing hi => exact absurd rfl (hi d)
  | tickIssue => rfl
  | tickEmpty => rfl
  | tickGated => rfl

theorem exec_shifter (h : exec i s = .next t) (hk : ∀ d, i ≠ .tick d) :
    t.txActive = s.txActive ∧ t.txLen = s.txLen ∧ t.txCount = s.txCount ∧ t.txByte = s.txByte ∧
      t.txBit = s.txBit := by
  cases exec_effect h with
  | tickIssue d => exact absurd rfl (hk d)
  | _ => exact ⟨rfl, rfl, rfl, rfl, rfl⟩

/-- The frame buffer is written by a TICK that renders, and by no other transaction (10_state.md R53). -/
theorem exec_frame (h : exec i s = .next t) :
    t.frame = s.frame ∨ ((∃ d, i = .tick d) ∧ tickRenders s) := by
  cases exec_effect h with
  | tickIssue d hr => exact .inr ⟨⟨d, rfl⟩, hr⟩
  | tickEmpty d hr => exact .inr ⟨⟨d, rfl⟩, hr⟩
  | _ => exact .inl rfl

/-- The pixel store under every transaction but a fill and RESET: at most the entry an in-range PIX_DATA write
names is another. -/
theorem exec_pixRead (h : exec i s = .next t) (hwf : Memory.wf s.pix) (hf : ∀ d, i ≠ .wrPixFill d)
    (hr : ∀ d, i ≠ .reset d) {j : Nat}
    (hj : (∀ d, i ≠ .wrPixData d) ∨ j ≠ s.pixIndex.toNat ∨ s.ledCount ≤ s.pixIndex) :
    pixRead t j = pixRead s j := by
  cases exec_effect h with
  | pixFill d => exact absurd rfl (hf d)
  | reset d => exact absurd rfl (hr d)
  | pixData d hp =>
    have hne : j ≠ s.pixIndex.toNat := by
      rcases hj with hi | hne | hle
      · exact absurd rfl (hi d)
      · exact hne
      · exact absurd hp (Nat.not_lt.mpr hle)
    exact (Memory.read_write hwf _ _ j).trans (if_neg hne)
  | _ => rfl

/-- PIX_FILL leaves every entry from LED_COUNT on as it was. -/
theorem pixFill_pixRead {d : Word} (h : exec (.wrPixFill d) s = .next t) {j : Nat}
    (hj : s.ledCount.toNat ≤ j) : pixRead t j = pixRead s j := by
  cases h
  exact (Memory.read_fillBelow _ _ _ j).trans (if_neg (Nat.not_lt.mpr hj))

/-- RESET leaves every entry from MAX_LEDS on as it was. -/
theorem reset_pixRead {d : Word} (h : exec (.reset d) s = .next t) {j : Nat}
    (hj : s.params.maxLeds.toNat ≤ j) : pixRead t j = pixRead s j := by
  cases exec_effect h with
  | reset => exact (Memory.read_clearBelow _ _ j).trans (if_neg (Nat.not_lt.mpr hj))
  | read => rfl
  | nothing => rfl

/-- A write leaves Q alone. -/
theorem exec_q_of_write (h : exec i s = .next t) (hwe : (encode i).getLsbD 38 = true) : t.q = s.q := by
  cases exec_effect h with
  | read v hrd => exact absurd (hwe.symm.trans hrd) (by decide)
  | _ => rfl

end Sys2Proof.Machine

end

/-! ## Dirty, the frame of every transaction, the frame buffer and the interrupt -/

section

namespace Sys2Proof.Machine

/-- Settles O55, from what `exec_dirty` says of the flag. -/
theorem whatSetsAndClearsDirty : Obligations.WhatSetsAndClearsDirty := by
  intro i s t h
  rcases exec_dirty h with he | ⟨hc, hi, -, ht⟩ | ⟨hd, hsets⟩
  · exact ⟨fun h1 h0 => by simp [he, h1] at h0, fun h0 h1 => by simp [he, h0] at h1⟩
  · exact ⟨fun _ _ => ⟨hi, ht⟩, fun _ h1 => by simp [hc] at h1⟩
  · exact ⟨fun _ h0 => by simp [hd] at h0, fun _ _ => hsets⟩

/-- A transaction outside the rows of `SetsDirty` and TICK leaves dirty as it is. -/
theorem exec_dirty_of_other {i : Instr} {s t : State} (h : exec i s = .next t)
    (hctrl : ∀ d, i ≠ .wrCtrl d) (hcount : ∀ d, i ≠ .wrLedCount d) (hdata : ∀ d, i ≠ .wrPixData d)
    (hfill : ∀ d, i ≠ .wrPixFill d) (hsplash : ∀ d, i ≠ .splash d) (htick : ∀ d, i ≠ .tick d)
    (hreset : ∀ d, i ≠ .reset d) : t.dirty = s.dirty := by
  rcases exec_dirty h with he | ⟨-, ⟨d, rfl⟩, -⟩ | ⟨-, hsets⟩
  · exact he
  · exact absurd rfl (htick d)
  · simp [SetsDirty, hctrl, hcount, hdata, hfill, hsplash, htick, hreset] at hsets

/-- Settles O58: the frame lemmas of the fields, one for each clause. -/
theorem transactionFrame : Obligations.TransactionFrame := by
  intro i s t h
  have hframe {j : Nat} (hn : ¬ ((∃ d, i = .tick d) ∧ tickRenders s)) :
      frameRead t j = frameRead s j :=
    congrArg (Memory.read · j) ((exec_frame h).resolve_right hn)
  refine ⟨exec_environment h, exec_ledCount h, exec_control h, exec_dirty_of_other h,
    fun hs => ⟨exec_done h hs, exec_errRange h hs, exec_errCmd h hs⟩, exec_pixIndex h,
    exec_frameIndex h, exec_encIn h, fun hr => ?overlay, ?tick, fun hk => ?shifter, ?gated,
    fun hwf hf hr j hj => exec_pixRead h hwf hf hr hj, ?fill, ?reset, exec_q_of_write h⟩
  case overlay =>
    obtain ⟨hcolor, hcount, hdur⟩ := exec_staging h hr
    refine ⟨hcolor, hcount, hdur, fun hs => ?_⟩
    obtain ⟨h1, h2, h3, h4⟩ := exec_overlay h hr hs
    exact ⟨h1, h2, h3, h4, exec_ovActive h hr hs⟩
  case tick => rintro d rfl; exact tick_ovActive h
  case shifter =>
    obtain ⟨h1, h2, h3, h4, h5⟩ := exec_shifter h hk
    exact ⟨h1, h2, h3, h4, h5, fun j => hframe fun ⟨⟨d, hd⟩, _⟩ => hk d hd⟩
  case gated => exact fun d _ hr j => hframe fun hn => hr hn.2
  case fill => rintro d rfl j hj; exact pixFill_pixRead h hj
  case reset => rintro d rfl j hj; exact reset_pixRead h hj

/-- A shifter step only reads the frame buffer. -/
theorem shiftStep_frame (s : State) : (shiftStep s).frame = s.frame := by
  rcases shiftStep_cases s with ⟨-, e⟩ | ⟨-, -, e⟩ | ⟨-, -, -, e⟩ | ⟨-, -, -, e⟩ <;> simp [e]

/-- The host port's step writes the frame buffer only as a TICK that renders. -/
theorem hostStep_frame {s t : State} (h : hostStep s = .next t) :
    t.frame = s.frame ∨
    ((∃ T d, presented s = some T ∧ decode T = .tick d) ∧ s.txActive = false) := by
  rcases hostStep_cases s with ⟨-, e⟩ | ⟨T, -, -, e⟩ | ⟨T, hT, -, e⟩ <;> rw [e] at h
  · cases h; exact .inl rfl
  · cases h; exact .inl rfl
  · rcases exec_frame h with he | ⟨⟨d, hd⟩, -, ht⟩
    · exact .inl he
    · exact .inr ⟨⟨T, d, hT, hd⟩, ht⟩

/-- A step other than a power-on reset writes the frame buffer only as a host turn with a TICK, while idle. -/
theorem step_frame {s t : State} (h : step s = .next t) (hp : nextTurn s ≠ .powerOn) :
    t.frame = s.frame ∨
    ((nextTurn s = .host ∧ ∃ T d, presented s = some T ∧ decode T = .tick d) ∧
      s.txActive = false) := by
  rcases step_cases h with ⟨hn, hx⟩ | ⟨-, rfl⟩ | ⟨now, -, rfl⟩ | ⟨hn, -⟩ | ⟨-, rfl⟩
  · rcases hostStep_frame hx with he | ⟨hT, ht⟩
    · exact .inl he
    · exact .inr ⟨⟨hn, hT⟩, ht⟩
  · exact .inl (shiftStep_frame (startTurn s))
  · exact .inl rfl
  · exact absurd hn hp
  · exact .inl rfl

/-- Settles O50: the one step that writes the frame buffer is made while no transfer is in flight. -/
theorem frameIsNotWrittenDuringATransfer : Obligations.FrameIsNotWrittenDuringATransfer := by
  intro s t h hp
  rcases step_frame h hp with he | ⟨hT, ht⟩
  · exact ⟨fun _ => he, fun hne => absurd he hne⟩
  · exact ⟨fun hb => absurd hb (by simp [ht]), fun _ => hT⟩

/-- The shifter step that ends a transfer sets DONE (44_transfer_engine.md R180) and leaves IRQ_EN as it is. -/
theorem irq_shiftStep_of_end {s : State} (hb : s.txActive = true)
    (he : (shiftStep s).txActive = false) : irq (shiftStep s) = s.irqEn := by
  rcases shiftStep_cases s with ⟨ht, -⟩ | ⟨-, -, e⟩ | ⟨-, -, -, e⟩ | ⟨-, -, -, e⟩
  · simp [hb] at ht
  · simp [e, hb] at he
  · simp [e, hb] at he
  · simp [e, irq]

/-- Settles O52: the end of a transfer, and the fields the two writes set. -/
theorem irqFollowsDoneAndEnable : Obligations.IrqFollowsDoneAndEnable := by
  intro s t d
  refine ⟨fun hn h hb he => ?_, fun h => ?_, fun h => ?_⟩
  · rw [step_shift hn] at h
    cases h
    exact irq_shiftStep_of_end hb he
  · cases h
    simp [irq, w1c, fieldDone, Bool.and_right_comm]
  · cases h
    rfl

end Sys2Proof.Machine

end

/-! ## The frame a rendering TICK writes -/

section

namespace Sys2Proof.Machine

/-- The expiry step keeps the invariant: it changes ov_active and dirty alone. -/
theorem expireOverlay_keeps_inv {s : State} (h : Inv s) (now : Word) : Inv (expireOverlay now s) := by
  rw [expireOverlay_eq]
  exact { h with }

@[simp] theorem expireOverlay_params (now : Word) (s : State) :
    (expireOverlay now s).params = s.params := by
  rw [expireOverlay_eq]

@[simp] theorem expireOverlay_ledCount (now : Word) (s : State) :
    (expireOverlay now s).ledCount = s.ledCount := by
  rw [expireOverlay_eq]

@[simp] theorem slot_expireOverlay (now : Word) (s : State) (i : Nat) :
    slot (expireOverlay now s) i = slot s i := by
  rw [expireOverlay_eq]
  rfl

/-- The color after the expiry step: the overlay's only while it is active and not expired
(43_overlay.md R160, R161). -/
theorem resolve_expireOverlay (now : Word) (s : State) (i : Nat) :
    resolve (expireOverlay now s) i =
      if s.ovActive = true ∧ expired now s = false then
        (if i < s.ovCount.toNat then s.ovColor else 0) else pixRead s i := by
  rw [expireOverlay_eq]
  simp [resolve, pixRead]

/-- The rendered frame by slot, channel position and byte (44_transfer_engine.md R176). -/
theorem read_renderedFrame_block {s : State} (h : Inv s) {sl : Nat} (hsl : sl < s.ledCount.toNat)
    (k m : Fin 3) :
    Memory.read (renderedFrame s) (blockBase s.params sl k + m.val) =
      blockByte (enc (chan (resolve s (slot s sl)) (channelAt s.params.channelOrder k))) m := by
  have hoff : blockBase s.params sl k + m.val - s.params.leadBytes.toNat
      = 9 * sl + (3 * k.val + m.val) := by
    unfold blockBase
    omega
  have hled : (9 * sl + (3 * k.val + m.val)) / 9 = sl := by omega
  have hk : (9 * sl + (3 * k.val + m.val)) % 9 / 3 = k.val := by omega
  have hm : (9 * sl + (3 * k.val + m.val)) % 3 = m.val := by omega
  have hin : s.params.leadBytes.toNat ≤ blockBase s.params sl k + m.val ∧
      blockBase s.params sl k + m.val < s.params.leadBytes.toNat + 9 * s.ledCount.toNat := by
    unfold blockBase
    omega
  rw [read_renderedFrame h.frame_wf h.frame_lt_frameCap, if_pos hin, hoff, hled, hk, hm,
    Fin.ofNat_val_eq_self, Fin.ofNat_val_eq_self]

/-- The rendered frame outside the payload region (20_memory.md R62). -/
theorem read_renderedFrame_outside {s : State} (h : Inv s) {j : Nat}
    (hj : j < s.params.leadBytes.toNat ∨
      s.params.leadBytes.toNat + 9 * s.ledCount.toNat ≤ j) :
    Memory.read (renderedFrame s) j = 0 := by
  rw [read_renderedFrame h.frame_wf h.frame_lt_frameCap, if_neg (by omega)]

/-- A TICK that renders leaves the frame of the state after its expiry step. -/
theorem tick_frame {s : State} (hr : tickRenders s) :
    (renderIfDue (expireOverlay s.nowUs s)).frame = renderedFrame (expireOverlay s.nowUs s) := by
  rcases tick_cases s with ⟨-, -, h⟩ | ⟨-, -, h⟩ | ⟨hn, -⟩
  · rw [h]
  · rw [h]
  · exact absurd hr hn

/-- Settles O42: the bytes of each LED's slot, and the bytes around the payload. -/
theorem tickWritesTheFrameLayout : Obligations.TickWritesTheFrameLayout := by
  intro d s h hr
  have hx : Inv (expireOverlay s.nowUs s) := expireOverlay_keeps_inv h s.nowUs
  refine ⟨_, rfl, fun i k m hi => ?payload, fun j hj => ?outside⟩
  case payload =>
    have hbyte := read_renderedFrame_block hx (sl := slot s i) (by simpa using slot_lt hi) k m
    rw [slot_expireOverlay, slot_slot hi, resolve_expireOverlay, ← tick_frame hr,
      expireOverlay_params] at hbyte
    exact hbyte
  case outside =>
    rw [frameRead, tick_frame hr]
    exact read_renderedFrame_outside hx (by simpa using hj)

end Sys2Proof.Machine

end

/-! ## The payload in flight as symbol groups -/

section

namespace Sys2Proof.Machine

/-- The three bytes of a channel block, put together again, are the block (20_memory.md R63). -/
theorem blockByte_append (e : BitVec 24) : blockByte e 0 ++ blockByte e 1 ++ blockByte e 2 = e := by
  apply BitVec.eq_of_getLsbD_eq
  intro i hi
  simp only [blockByte, BitVec.getLsbD_append, BitVec.getLsbD_extractLsb']
  by_cases h2 : i < 8
  · simp [h2]
  · by_cases h1 : i - 8 < 8
    · simp [h2, h1, show 8 + (i - 8) = i by omega]
    · simp [h2, h1, show i - 8 - 8 < 8 by omega, show 16 + (i - 8 - 8) = i by omega]

@[simp] theorem getLsbD_symbolGroup_zero (bit : Bool) : (symbolGroup bit).getLsbD 0 = false := by
  cases bit <;> rfl

@[simp] theorem getLsbD_symbolGroup_two (bit : Bool) : (symbolGroup bit).getLsbD 2 = true := by
  cases bit <;> rfl

/-- The three lowest cells of a sequence of groups are those of its last group. -/
theorem getLsbD_append_symbolGroup_of_lt {w n : Nat} (hn : n < 3) (v : BitVec w) (bit : Bool) :
    (v ++ symbolGroup bit).getLsbD n = (symbolGroup bit).getLsbD n := by
  rw [BitVec.getLsbD_append, if_pos hn]

/-- The cells above the last group are those of the groups before it. -/
theorem getLsbD_append_symbolGroup_add {w : Nat} (v : BitVec w) (bit : Bool) (n : Nat) :
    (v ++ symbolGroup bit).getLsbD (n + 3) = v.getLsbD n := by
  rw [BitVec.getLsbD_append, if_neg (by omega), Nat.add_sub_cancel]

/-- Every group of an encoded byte begins high and ends low (40_bit_encoder.md R113). -/
theorem symbolsValid_enc (b : Byte) : symbolsValid (enc b) = true := by
  change List.all [0, 1, 2, 3, 4, 5, 6, 7] _ = true
  simp only [List.all_cons, List.all_nil, enc, Nat.reduceMul, Nat.reduceAdd,
    getLsbD_append_symbolGroup_of_lt, getLsbD_append_symbolGroup_add, getLsbD_symbolGroup_zero,
    getLsbD_symbolGroup_two, Nat.reduceLT, Bool.not_false, Bool.and_self]

/-- A channel block of a rendered frame is one encoded channel value. -/
theorem frameBlock_of_rendered {s t : State} (h : Inv s) (hf : t.frame = renderedFrame s)
    (hp : t.params = s.params) {sl : Nat} (hsl : sl < s.ledCount.toNat) (k : Fin 3) :
    frameBlock t sl k =
      enc (chan (resolve s (slot s sl)) (channelAt s.params.channelOrder k)) := by
  have hbyte (m : Fin 3) := read_renderedFrame_block h hsl k m
  calc frameBlock t sl k
      = Memory.read (renderedFrame s) (blockBase s.params sl k + (0 : Fin 3).val) ++
          Memory.read (renderedFrame s) (blockBase s.params sl k + (1 : Fin 3).val) ++
          Memory.read (renderedFrame s) (blockBase s.params sl k + (2 : Fin 3).val) := by
        simp [frameBlock, frameRead, hf, hp]
    _ = _ := by rw [hbyte, hbyte, hbyte, blockByte_append]

/-- The payload of a transfer of LED_COUNT LEDs from a rendered frame is valid. -/
theorem payloadValid_of_rendered {s t : State} (h : Inv s) (hf : t.frame = renderedFrame s)
    (hp : t.params = s.params) (hc : t.txCount = s.ledCount) : PayloadValid t := by
  intro _ sl hsl k
  rw [frameBlock_of_rendered h hf hp (hc ▸ hsl)]
  exact symbolsValid_enc _

/-- A transaction keeps the payload valid: a TICK that issues a transfer renders its payload, and no other
transaction touches the transfer in flight. -/
theorem exec_keeps_payloadValid {i : Instr} {s t : State} (h : Inv s) (hp : PayloadValid s)
    (hx : exec i s = .next t) : PayloadValid t := by
  cases exec_effect hx with
  | tickIssue d hr hl =>
    exact payloadValid_of_rendered (expireOverlay_keeps_inv h s.nowUs) rfl
      (expireOverlay_params s.nowUs s).symm (expireOverlay_ledCount s.nowUs s).symm
  | tickEmpty d hr => exact fun hb => absurd hb (by simp [hr.2])
  | _ => exact hp

/-- The host port's step keeps the payload valid: the port's list plays no part in it. -/
theorem hostStep_keeps_payloadValid {s t : State} (h : Inv s) (hp : PayloadValid s)
    (hx : hostStep s = .next t) : PayloadValid t := by
  rcases hostStep_cases s with ⟨-, e⟩ | ⟨T, -, -, e⟩ | ⟨T, -, -, e⟩ <;> rw [e] at hx
  · cases hx; exact hp
  · cases hx; exact hp
  · have ha : Inv (accept s) := { h with }
    exact exec_keeps_payloadValid ha hp hx

/-- A shifter step keeps the payload valid: it moves the position alone, or ends the transfer. -/
theorem shiftStep_keeps_payloadValid {s : State} (hp : PayloadValid s) :
    PayloadValid (shiftStep s) := by
  rcases shiftStep_cases s with ⟨-, e⟩ | ⟨-, -, e⟩ | ⟨-, -, -, e⟩ | ⟨-, -, -, e⟩ <;> rw [e]
  · exact hp
  · exact hp
  · exact hp
  · exact fun hb => nomatch hb

/-- Settles O17, by the agent that moves. -/
theorem stepKeepsPayloadSymbols : Obligations.StepKeepsPayloadSymbols := by
  intro s t h hp hs
  have hst : Inv (startTurn s) := { h with }
  rcases step_cases hs with ⟨-, hx⟩ | ⟨-, rfl⟩ | ⟨now, -, rfl⟩ | ⟨-, rfl⟩ | ⟨-, rfl⟩
  · exact hostStep_keeps_payloadValid hst hp hx
  · exact shiftStep_keeps_payloadValid hp
  · exact hp
  · exact fun hb => nomatch hb
  · exact hp

end Sys2Proof.Machine

end

/-! ## Reads -/

section

namespace Sys2Proof.Machine

/-- Every row the decoder reads for WE = 0 answers with data computed from the elements other than Q. -/
theorem exec_decodeRead (a : BitVec 6) (s : State) :
    ∃ v : Word, exec (decodeRead a) s = .next { s with q := some v } ∧
      ∀ q, exec (decodeRead a) { s with q := q } = .next { s with q := some v } := by
  unfold decodeRead
  split
  case h_19 => split_ifs <;> exact ⟨0, rfl, fun _ => rfl⟩
  all_goals exact ⟨_, rfl, fun _ => rfl⟩

/-- Settles O54: a word with WE = 0 decodes to a read row. -/
theorem readsHaveNoSideEffect : Obligations.ReadsHaveNoSideEffect := by
  intro T s hwe
  rw [decode_of_read hwe]
  exact exec_decodeRead (txnAddr T) s

end Sys2Proof.Machine

end

/-! ## The fields of a word under a mask, and the code of a CMD write -/

section

namespace Sys2Proof

/-- Two words put together agree exactly when both parts do. -/
theorem append_eq_append_iff {w v : Nat} {x x' : BitVec w} {y y' : BitVec v} :
    x ++ y = x' ++ y' ↔ x = x' ∧ y = y' := by
  constructor
  · intro h
    have hx := congrArg (BitVec.extractLsb' v w) h
    have hy := congrArg (BitVec.extractLsb' 0 v) h
    rw [BitVec.extractLsb'_append_eq_left, BitVec.extractLsb'_append_eq_left] at hx
    rw [BitVec.extractLsb'_append_eq_right, BitVec.extractLsb'_append_eq_right] at hy
    exact ⟨hx, hy⟩
  · rintro ⟨rfl, rfl⟩
    rfl

/-- A word under a mask that takes WE, field by field (30_encoding.md R90). -/
theorem and_mask_eq_iff (T : Txn) (we : Bool) (ma pa : BitVec 6) (md pd : Word) :
    T &&& (1#1 ++ ma ++ md) = BitVec.ofBool we ++ pa ++ pd ↔
      txnWe T = we ∧ txnAddr T &&& ma = pa ∧ txnData T &&& md = pd := by
  have hwe : BitVec.ofBool (txnWe T) &&& 1#1 = BitVec.ofBool we ↔ txnWe T = we := by
    cases txnWe T <;> cases we <;> decide
  conv_lhs => rw [txn_fields T]
  rw [BitVec.and_append, BitVec.and_append, append_eq_append_iff, append_eq_append_iff, hwe,
    and_assoc]

theorem addr_and_ones (a : BitVec 6) : a &&& 0x3f#6 = a := BitVec.and_allOnes

section Codes

variable {d : Word}

theorem decodeCmd_nop (h : cmdCode d = 0#4) : decodeCmd d = .nop d := by simp [decodeCmd, h]

theorem decodeCmd_tick (h : cmdCode d = 1#4) : decodeCmd d = .tick d := by simp [decodeCmd, h]

theorem decodeCmd_reset (h : cmdCode d = 2#4) : decodeCmd d = .reset d := by simp [decodeCmd, h]

theorem decodeCmd_splash (h : cmdCode d = 3#4) : decodeCmd d = .splash d := by simp [decodeCmd, h]

/-- CODE 4 to 7 (30_encoding.md R98): none of the four commands, and bit 3 is 0. -/
theorem decodeCmd_rsv4 (h : (cmdCode d).extractLsb' 2 2 = 0b01#2) : decodeCmd d = .cmdRsv4 d := by
  have hbit : ∀ c : BitVec 4, c.extractLsb' 2 2 = 0b01#2 → ¬ c.getLsbD 3 = true := by decide
  unfold decodeCmd
  split
  case h_5 => exact if_neg (hbit _ h)
  all_goals next hc => rw [hc] at h; exact absurd h (by decide)

/-- CODE 8 to 15 (30_encoding.md R98): none of the four commands, and bit 3 is 1. -/
theorem decodeCmd_rsv8 (h : (cmdCode d).getLsbD 3 = true) : decodeCmd d = .cmdRsv8 d := by
  unfold decodeCmd
  split
  case h_5 => exact if_pos h
  all_goals next hc => rw [hc] at h; exact absurd h (by decide)

end Codes

end Sys2Proof

end

/-! ## Decoding an encoded transaction -/

section

namespace Sys2Proof

/-- Decoding an encoded well-formed transaction gives it back, a case per kind of row. -/
theorem decode_encode {i : Instr} (h : i.wf = true) : decode (encode i) = i := by
  cases i
  case nop d => exact (decode_wrTxn _ d).trans (decodeCmd_nop (eq_of_beq h))
  case tick d => exact (decode_wrTxn _ d).trans (decodeCmd_tick (eq_of_beq h))
  case reset d => exact (decode_wrTxn _ d).trans (decodeCmd_reset (eq_of_beq h))
  case splash d => exact (decode_wrTxn _ d).trans (decodeCmd_splash (eq_of_beq h))
  case cmdRsv4 d => exact (decode_wrTxn _ d).trans (decodeCmd_rsv4 (eq_of_beq h))
  case cmdRsv8 d => exact (decode_wrTxn _ d).trans (decodeCmd_rsv8 h)
  case rdRsv12 a =>
    obtain ⟨hrow, -, -, -⟩ := decodeRead_reserved a
    exact (decode_rdTxn a).trans (hrow h)
  case wrRsv12 a d =>
    obtain ⟨hrow, -, -, -⟩ := decodeWrite_reserved a d
    exact (decode_wrTxn a d).trans (hrow h)
  case rdRsv14 a =>
    obtain ⟨-, hrow, -, -⟩ := decodeRead_reserved a
    exact (decode_rdTxn a).trans (hrow h)
  case wrRsv14 a d =>
    obtain ⟨-, hrow, -, -⟩ := decodeWrite_reserved a d
    exact (decode_wrTxn a d).trans (hrow h)
  case rdRsv18 a =>
    obtain ⟨-, -, hrow, -⟩ := decodeRead_reserved a
    exact (decode_rdTxn a).trans (hrow h)
  case wrRsv18 a d =>
    obtain ⟨-, -, hrow, -⟩ := decodeWrite_reserved a d
    exact (decode_wrTxn a d).trans (hrow h)
  case rdRsv20 a =>
    obtain ⟨-, -, -, hrow⟩ := decodeRead_reserved a
    exact (decode_rdTxn a).trans (hrow h)
  case wrRsv20 a d =>
    obtain ⟨-, -, -, hrow⟩ := decodeWrite_reserved a d
    exact (decode_wrTxn a d).trans (hrow h)
  case wrCaps d | wrCtrl d | wrStatus d | wrLedCount d | wrPixIndex d | wrPixData d | wrPixFill d
      | wrOvColor d | wrOvCount d | wrOvDuration d | wrNow d | wrFrameLen d | wrFrameIndex d
      | wrFrameData d | wrEnc d | wrOvStart d | wrTxPos d => exact decode_wrTxn _ d
  all_goals exact decode_rdTxn _

/-- Settles O4, by the row of the transaction. -/
theorem decodeOfEncodeIsIdentity : Obligations.DecodeOfEncodeIsIdentity := fun _ h => decode_encode h

end Sys2Proof

end

/-! ## Encoding a decoded word -/

section

namespace Sys2Proof

theorem encode_decodeRead (a : BitVec 6) : encode (decodeRead a) = rdTxn a := by
  revert a; decide

theorem encode_decodeCmd (d : Word) : encode (decodeCmd d) = wrTxn Reg.cmd.addr d := by
  rcases decodeCmd_cases d with ⟨-, h⟩ | ⟨-, h⟩ | ⟨-, h⟩ | ⟨-, h⟩ | ⟨-, h⟩ | ⟨-, h⟩ <;> rw [h] <;> rfl

theorem encode_decodeWrite (a : BitVec 6) (d : Word) : encode (decodeWrite a d) = wrTxn a d := by
  unfold decodeWrite
  split
  case h_5 => exact encode_decodeCmd d
  case h_19 => split_ifs <;> rfl
  all_goals rfl

/-- The word of what a word decodes to, with the ignored D of a read written as 0 (30_encoding.md R90). -/
theorem encode_decode (T : Txn) :
    encode (decode T) = if T.getLsbD 38 = true then T else T &&& 0x7F00000000 := by
  split
  case isTrue h =>
    have hf : T = BitVec.ofBool true ++ txnAddr T ++ txnData T := h ▸ txn_fields T
    rw [decode_of_write h, encode_decodeWrite]
    exact hf.symm
  case isFalse h =>
    have h := Bool.eq_false_iff.mpr h
    rw [decode_of_read h, encode_decodeRead]
    exact ((and_mask_eq_iff T false 0x3f#6 _ 0 0).mpr
      ⟨h, addr_and_ones _, BitVec.and_zero⟩).symm

/-- Settles O5, by WE: a write keeps its three fields, a read its address alone. -/
theorem encodeOfDecodeIsCanonicalWord : Obligations.EncodeOfDecodeIsCanonicalWord := encode_decode

end Sys2Proof

end

/-! ## The opcode map -/

section

namespace Sys2Proof

/-- A word in a row of several read addresses. -/
theorem decode_of_readMask (ma pa : BitVec 6) {T : Txn} {i : Instr}
    (hrow : txnAddr T &&& ma = pa → decodeRead (txnAddr T) = i)
    (h : T &&& (1#1 ++ ma ++ 0#32) = rdTxn pa) : decode T = i := by
  obtain ⟨hwe, ha, -⟩ := (and_mask_eq_iff T false ma pa 0 0).mp h
  exact (decode_of_read hwe).trans (hrow ha)

/-- A word in a row of several write addresses. -/
theorem decode_of_writeMask (ma pa : BitVec 6) {T : Txn} {i : Instr}
    (hrow : txnAddr T &&& ma = pa → decodeWrite (txnAddr T) (txnData T) = i)
    (h : T &&& (1#1 ++ ma ++ 0#32) = wrTxn pa 0) : decode T = i := by
  obtain ⟨hwe, ha, -⟩ := (and_mask_eq_iff T true ma pa 0 0).mp h
  exact (decode_of_write hwe).trans (hrow ha)

/-- A word in the row of one read address. -/
theorem decode_of_readRow (a : BitVec 6) {T : Txn} (h : T &&& 0x7F00000000 = rdTxn a) :
    decode T = decodeRead a :=
  decode_of_readMask 0x3f#6 a (fun ha => by rw [← ha, addr_and_ones]) h

/-- A word in the row of one write address. -/
theorem decode_of_writeRow (a : BitVec 6) {T : Txn} (h : T &&& 0x7F00000000 = wrTxn a 0) :
    decode T = decodeWrite a (txnData T) :=
  decode_of_writeMask 0x3f#6 a (fun ha => by rw [← ha, addr_and_ones]) h

/-- A word in a row of CMD, whose mask takes bits of CODE (30_encoding.md R94). -/
theorem decode_of_cmdMask (m p : BitVec 4) {T : Txn} {i : Instr}
    (hrow : cmdCode (txnData T) &&& m = p → decodeCmd (txnData T) = i)
    (h : T &&& (1#1 ++ 0x3f#6 ++ (0#28 ++ m)) = wrTxn Reg.cmd.addr (0#28 ++ p)) : decode T = i := by
  obtain ⟨hwe, ha, hd⟩ := (and_mask_eq_iff T true _ _ _ _).mp h
  rw [addr_and_ones] at ha
  rw [Laws.RowMatch.and_code, append_eq_append_iff] at hd
  obtain ⟨-, hcode⟩ := hd
  rw [decode_of_write hwe, ha]
  exact hrow hcode

/-- The range of a reserved address, by its fixed high bits. -/
theorem inRange_of_mask (a : BitVec 6) :
    (a &&& 0x3e = 0x12 → inRange a 0x12 0x13 = true) ∧
    (a &&& 0x3c = 0x14 → inRange a 0x14 0x17 = true) ∧
    (a &&& 0x38 = 0x18 → inRange a 0x18 0x1f = true) ∧
    (a &&& 0x20 = 0x20 → inRange a 0x20 0x3f = true) := by
  revert a; decide

/-- The row of a reserved read address, by its fixed high bits. -/
theorem decodeRead_of_mask (a : BitVec 6) :
    (a &&& 0x3e = 0x12 → decodeRead a = .rdRsv12 a) ∧
    (a &&& 0x3c = 0x14 → decodeRead a = .rdRsv14 a) ∧
    (a &&& 0x38 = 0x18 → decodeRead a = .rdRsv18 a) ∧
    (a &&& 0x20 = 0x20 → decodeRead a = .rdRsv20 a) := by
  obtain ⟨m12, m14, m18, m20⟩ := inRange_of_mask a
  obtain ⟨r12, r14, r18, r20⟩ := decodeRead_reserved a
  exact ⟨r12 ∘ m12, r14 ∘ m14, r18 ∘ m18, r20 ∘ m20⟩

/-- The row of a reserved write address, by its fixed high bits. -/
theorem decodeWrite_of_mask (a : BitVec 6) (d : Word) :
    (a &&& 0x3e = 0x12 → decodeWrite a d = .wrRsv12 a d) ∧
    (a &&& 0x3c = 0x14 → decodeWrite a d = .wrRsv14 a d) ∧
    (a &&& 0x38 = 0x18 → decodeWrite a d = .wrRsv18 a d) ∧
    (a &&& 0x20 = 0x20 → decodeWrite a d = .wrRsv20 a d) := by
  obtain ⟨m12, m14, m18, m20⟩ := inRange_of_mask a
  obtain ⟨w12, w14, w18, w20⟩ := decodeWrite_reserved a d
  exact ⟨w12 ∘ m12, w14 ∘ m14, w18 ∘ m18, w20 ∘ m20⟩

/-- A code under the mask of its CMD row. -/
theorem code_of_mask (c : BitVec 4) :
    (∀ p, c &&& 0xf#4 = p → c = p) ∧
    (c &&& 0xc#4 = 0x4#4 → c.extractLsb' 2 2 = 0b01#2) ∧
    (c &&& 0x8#4 = 0x8#4 → c.getLsbD 3 = true) := by
  revert c; decide

/-- The row of a write to CMD, by the bits of CODE its mask takes. -/
theorem decodeCmd_of_mask (d : Word) :
    (cmdCode d &&& 0xf = 0x0 → decodeCmd d = .nop d) ∧
    (cmdCode d &&& 0xf = 0x1 → decodeCmd d = .tick d) ∧
    (cmdCode d &&& 0xf = 0x2 → decodeCmd d = .reset d) ∧
    (cmdCode d &&& 0xf = 0x3 → decodeCmd d = .splash d) ∧
    (cmdCode d &&& 0xc = 0x4 → decodeCmd d = .cmdRsv4 d) ∧
    (cmdCode d &&& 0x8 = 0x8 → decodeCmd d = .cmdRsv8 d) := by
  obtain ⟨hcode, hrsv4, hrsv8⟩ := code_of_mask (cmdCode d)
  exact ⟨decodeCmd_nop ∘ hcode 0, decodeCmd_tick ∘ hcode 1, decodeCmd_reset ∘ hcode 2,
    decodeCmd_splash ∘ hcode 3, decodeCmd_rsv4 ∘ hrsv4, decodeCmd_rsv8 ∘ hrsv8⟩

/-- Settles O2, row by row in the order of the table. -/
theorem decodeFollowsOpcodeMap : Obligations.DecodeFollowsOpcodeMap := by
  intro T d a
  obtain ⟨nop, tick, reset, splash, rsv4, rsv8⟩ := decodeCmd_of_mask d
  obtain ⟨r12, r14, r18, r20⟩ := decodeRead_of_mask a
  obtain ⟨w12, w14, w18, w20⟩ := decodeWrite_of_mask a d
  exact ⟨
    decode_of_readRow 0x00, decode_of_writeRow 0x00,
    decode_of_readRow 0x01, decode_of_writeRow 0x01,
    decode_of_readRow 0x02, decode_of_writeRow 0x02,
    decode_of_readRow 0x03, decode_of_writeRow 0x03,
    decode_of_readRow 0x04,
    decode_of_cmdMask 0xf 0x0 nop, decode_of_cmdMask 0xf 0x1 tick,
    decode_of_cmdMask 0xf 0x2 reset, decode_of_cmdMask 0xf 0x3 splash,
    decode_of_cmdMask 0xc 0x4 rsv4, decode_of_cmdMask 0x8 0x8 rsv8,
    decode_of_readRow 0x05, decode_of_writeRow 0x05,
    decode_of_readRow 0x06, decode_of_writeRow 0x06,
    decode_of_readRow 0x07, decode_of_writeRow 0x07,
    decode_of_readRow 0x08, decode_of_writeRow 0x08,
    decode_of_readRow 0x09, decode_of_writeRow 0x09,
    decode_of_readRow 0x0a, decode_of_writeRow 0x0a,
    decode_of_readRow 0x0b, decode_of_writeRow 0x0b,
    decode_of_readRow 0x0c, decode_of_writeRow 0x0c,
    decode_of_readRow 0x0d, decode_of_writeRow 0x0d,
    decode_of_readRow 0x0e, decode_of_writeRow 0x0e,
    decode_of_readRow 0x0f, decode_of_writeRow 0x0f,
    decode_of_readRow 0x10, decode_of_writeRow 0x10,
    decode_of_readRow 0x11, decode_of_writeRow 0x11,
    decode_of_readMask 0x3e 0x12 r12, decode_of_writeMask 0x3e 0x12 w12,
    decode_of_readMask 0x3c 0x14 r14, decode_of_writeMask 0x3c 0x14 w14,
    decode_of_readMask 0x38 0x18 r18, decode_of_writeMask 0x38 0x18 w18,
    decode_of_readMask 0x20 0x20 r20, decode_of_writeMask 0x20 0x20 w20⟩

/-- Settles O1, by evaluation. -/
theorem specExampleWordsDecode : Obligations.SpecExampleWordsDecode := by
  unfold Obligations.SpecExampleWordsDecode
  decide

end Sys2Proof

end

/-! ## One row for every word -/

section

namespace Sys2Proof.Machine

/-- Every transaction answers a next state, in every state (60_exceptions.md R200). -/
theorem exec_next (i : Instr) (s : State) : ∃ t, exec i s = .next t := by
  cases i
  case wrLedCount d => simp only [exec, execWrLedCount]; split_ifs <;> exact ⟨_, rfl⟩
  case reset d => simp only [exec, execReset]; split_ifs <;> exact ⟨_, rfl⟩
  case wrPixData d => simp only [exec, execWrPixData]; split_ifs <;> exact ⟨_, rfl⟩
  all_goals exact ⟨_, rfl⟩

end Sys2Proof.Machine

end

section

namespace Sys2Proof

theorem decodeRead_wf (a : BitVec 6) : (decodeRead a).wf = true := by
  revert a; decide

theorem decodeCmd_wf (d : Word) : (decodeCmd d).wf = true := by
  rcases decodeCmd_cases d with ⟨h, e⟩ | ⟨h, e⟩ | ⟨h, e⟩ | ⟨h, e⟩ | ⟨h, e⟩ | ⟨h, e⟩ <;> rw [e]
  case inr.inr.inr.inr.inr => exact h
  all_goals exact beq_iff_eq.mpr h

theorem decodeWrite_wf (a : BitVec 6) (d : Word) : (decodeWrite a d).wf = true := by
  fin_cases a
  -- The fifth address is that of CMD, the one write whose row depends on D.
  pick_goal 5
  · exact decodeCmd_wf d
  all_goals rfl

/-- Every word decodes to a well-formed transaction. -/
theorem decode_wf (T : Txn) : (decode T).wf = true := by
  unfold decode
  split
  · exact decodeWrite_wf _ _
  · exact decodeRead_wf _

theorem decodeCmd_mnemonic_congr {d d' : Word} (h : cmdCode d = cmdCode d') :
    (decodeCmd d).mnemonic = (decodeCmd d').mnemonic := by
  unfold decodeCmd
  rw [h]
  split
  case h_5 => split_ifs <;> rfl
  all_goals rfl

/-- The row of a write: by the address alone, and for CMD by CODE besides (30_encoding.md R91). -/
theorem decodeWrite_mnemonic_congr {a : BitVec 6} {d d' : Word}
    (h : a = Reg.cmd.addr → cmdCode d = cmdCode d') :
    (decodeWrite a d).mnemonic = (decodeWrite a d').mnemonic := by
  unfold decodeWrite
  split
  case h_5 => exact decodeCmd_mnemonic_congr (h rfl)
  case h_19 => split_ifs <;> rfl
  all_goals rfl

open Laws.RowMatch in
/-- The word of a well-formed transaction lies in a row of its mnemonic, a lemma of `Laws.RowMatch` for each
constructor. -/
theorem encode_inRow {i : Instr} (h : i.wf = true) : InRow i.mnemonic (encode i) := by
  cases i
  exacts [
    rdCaps h, wrCaps _ h, rdCtrl h, wrCtrl _ h, rdStatus h, wrStatus _ h, rdLedCount h, wrLedCount _ h,
    rdCmd h, nop _ h, tick _ h, reset _ h, splash _ h, cmdRsv4 _ h, cmdRsv8 _ h,
    rdPixIndex h, wrPixIndex _ h, rdPixData h, wrPixData _ h, rdPixFill h, wrPixFill _ h,
    rdOvColor h, wrOvColor _ h, rdOvCount h, wrOvCount _ h, rdOvDuration h, wrOvDuration _ h,
    rdNow h, wrNow _ h,
    rdFrameLen h, wrFrameLen _ h, rdFrameIndex h, wrFrameIndex _ h, rdFrameData h, wrFrameData _ h,
    rdEnc h, wrEnc _ h, rdOvStart h, wrOvStart _ h, rdTxPos h, wrTxPos _ h,
    rdRsv12 _ h, wrRsv12 _ _ h, rdRsv14 _ h, wrRsv14 _ _ h,
    rdRsv18 _ h, wrRsv18 _ _ h, rdRsv20 _ h, wrRsv20 _ _ h]

/-- Two rows that some word could lie in together are one row (30_encoding.md R91). -/
theorem row_eq_of_compatible : ∀ r ∈ opcodeTable, ∀ r' ∈ opcodeTable,
    r.pattern &&& r'.mask = r'.pattern &&& r.mask → r = r' := by decide

theorem row_eq_of_covers {r r' : TableRow} (hr : r ∈ opcodeTable) (hr' : r' ∈ opcodeTable) {T : Txn}
    (h : r.covers T = true) (h' : r'.covers T = true) : r = r' := by
  apply row_eq_of_compatible r hr r' hr'
  rw [← eq_of_beq h, ← eq_of_beq h', BitVec.and_assoc, BitVec.and_assoc, BitVec.and_comm r.mask]

theorem opcodeTable_nodup : opcodeTable.Nodup :=
  .of_map TableRow.pattern (by decide)

/-- The rows of reads ignore D (30_encoding.md R90). -/
theorem mask_of_readRow : ∀ r ∈ opcodeTable, r.pattern.getLsbD 38 = false →
    0x7F00000000 &&& r.mask = r.mask := by decide

/-- A word lies in the row of its canonical word: a write is its own, and a read's row ignores D. -/
theorem covers_of_covers_encode_decode {r : TableRow} (hr : r ∈ opcodeTable) {T : Txn}
    (h : r.covers (encode (decode T)) = true) : r.covers T = true := by
  rw [encode_decode] at h
  split at h
  case isTrue => exact h
  case isFalse hwe =>
    have hp : T &&& 0x7F00000000 &&& r.mask = r.pattern := eq_of_beq h
    have hread : r.pattern.getLsbD 38 = false := by
      rw [← hp, BitVec.getLsbD_and, BitVec.getLsbD_and, Bool.eq_false_iff.mpr hwe]
      rfl
    rw [BitVec.and_assoc, mask_of_readRow r hr hread] at hp
    exact beq_iff_eq.mpr hp

/-- Exactly one row covers a word, the decoder's (30_encoding.md R91): a row of its mnemonic does, and no other. -/
theorem filter_covers_eq (T : Txn) :
    (opcodeTable.filter (TableRow.covers · T)).map TableRow.mnemonic = [(decode T).mnemonic] := by
  obtain ⟨r, hr, hm, hcanon⟩ := encode_inRow (decode_wf T)
  have hc : r.covers T = true := covers_of_covers_encode_decode hr hcanon
  have honly : ∀ r' ∈ opcodeTable, r'.covers T = (r' == r) := by
    intro r' hr'
    rw [Bool.eq_iff_iff, beq_iff_eq]
    exact ⟨fun hc' => row_eq_of_covers hr' hr hc' hc, fun he => he ▸ hc⟩
  calc (opcodeTable.filter (TableRow.covers · T)).map TableRow.mnemonic
      = (opcodeTable.filter (· == r)).map TableRow.mnemonic := by rw [List.filter_congr honly]
    _ = [r.mnemonic] := by
        rw [List.filter_beq, List.count_eq_one_of_mem opcodeTable_nodup hr]
        rfl
    _ = [(decode T).mnemonic] := by rw [hm]

/-- The selector of a row but for CODE: WE and A (30_encoding.md R91). -/
theorem selector_eq (T : Txn) : T.extractLsb' 32 7 = BitVec.ofBool (txnWe T) ++ txnAddr T := by
  conv_lhs => rw [txn_fields T]
  exact BitVec.extractLsb'_append_eq_left

theorem cmdCode_txnData (T : Txn) : cmdCode (txnData T) = T.extractLsb' 0 4 := by
  apply BitVec.eq_of_getLsbD_eq
  intro i hi
  simp [cmdCode, txnData, hi]

/-- The row of a word depends on WE and A alone, and for a write to CMD on CODE besides (30_encoding.md R91). -/
theorem decode_mnemonic_congr {T T' : Txn} (hs : T.extractLsb' 32 7 = T'.extractLsb' 32 7)
    (hc : T.extractLsb' 32 7 = 0x44 → T.extractLsb' 0 4 = T'.extractLsb' 0 4) :
    (decode T).mnemonic = (decode T').mnemonic := by
  have hsel := hs
  rw [selector_eq, selector_eq, append_eq_append_iff, BitVec.ofBool_eq_iff_eq] at hsel
  obtain ⟨hwe, ha⟩ := hsel
  cases h : txnWe T with
  | false => rw [decode_of_read h, decode_of_read (hwe.symm.trans h), ha]
  | true =>
    rw [decode_of_write h, decode_of_write (hwe.symm.trans h), ← ha]
    apply decodeWrite_mnemonic_congr
    intro hcmd
    rw [cmdCode_txnData, cmdCode_txnData]
    exact hc (by rw [selector_eq, h, hcmd]; rfl)

/-- Settles O3, a lemma for each of its four clauses. -/
theorem everyWordSelectsExactlyOneRow : Obligations.EveryWordSelectsExactlyOneRow :=
  ⟨filter_covers_eq, fun _ _ => decode_mnemonic_congr, decode_wf,
    fun T => Machine.exec_next (decode T)⟩

end Sys2Proof

end

/-! ## The host's turn -/

section

namespace Sys2Proof.Machine

/-- READY with a transaction presented (10_state.md R29). -/
theorem ready_of_presented {s : State} {T : Txn} (h : presented s = some T) :
    ready s = !waits (decode T) s := by
  simp [ready, portHeld, h]

theorem hostStep_of_waits {s : State} {T : Txn} (h : presented s = some T)
    (hw : waits (decode T) s = true) : hostStep s = .next s := by
  simp [hostStep, h, hw]

theorem hostStep_of_not_waits {s : State} {T : Txn} (h : presented s = some T)
    (hw : waits (decode T) s = false) : hostStep s = exec (decode T) (accept s) := by
  simp [hostStep, h, hw]

/-- A shifter step while a transfer is in flight sends one cell and leaves the port alone. -/
theorem shiftStep_port_trace {s : State} (h : s.txActive = true) :
    (shiftStep s).port = s.port ∧ (shiftStep s).trace = s.trace ++ [dout s] := by
  rcases shiftStep_cases s with ⟨ht, -⟩ | ⟨-, -, e⟩ | ⟨-, -, -, e⟩ | ⟨-, -, -, e⟩
  · simp [h] at ht
  · simp [e]
  · simp [e]
  · simp [e]

theorem ledCountLegal_iff (d : Word) (s : State) :
    ledCountLegal d s = true ↔ (d.extractLsb' 0 16).toNat ≤ s.params.maxLeds.toNat :=
  decide_eq_true_iff

/-- Settles O7, by the agent that moves. -/
theorem heldTransactionWaitsAtThePort : Obligations.HeldTransactionWaitsAtThePort := by
  intro s T hp
  refine ⟨by simp only [waits_iff, ledCountLegal_iff], ready_of_presented hp, fun hw hn => ?host, fun hw hn => ?shift,
    fun now _ hn => ⟨_, step_time hn, rfl, rfl⟩⟩
  case host =>
    rw [step_host hn, hostStep_of_waits (s := startTurn s) hp (by rw [waits_startTurn, hw])]
    rfl
  case shift =>
    have hb : (startTurn s).txActive = true := ((waits_iff _ s).mp hw).1
    exact ⟨_, step_shift hn, shiftStep_port_trace hb⟩

/-- A host turn with a transaction presented that does not wait performs it (30_encoding.md R97). -/
theorem step_performs {s : State} {T : Txn} (hn : nextTurn s = .host) (hp : presented s = some T)
    (hw : waits (decode T) s = false) :
    step s = exec (decode T) { s with agenda := s.agenda.tail, port := s.port.tail, q := none } := by
  rw [step_host hn, hostStep_of_not_waits (s := startTurn s) hp (by rw [waits_startTurn, hw])]
  rfl

/-- A number of at most 39 bits is a word. -/
theorem decodeTableWord_of_lt (nbits : Nat) {w : Nat} (h : w < 2 ^ 39) :
    decodeTableWord nbits w = some (decode (BitVec.ofNat 39 w)) := by
  rw [decodeTableWord, decodeNat, if_pos h]

/-- Settles O6: `withFetchWord` presents the word and grants the host the turn. -/
theorem hostStepRunsDecodedTransaction : Obligations.HostStepRunsDecodedTransaction := by
  refine ⟨fun s T => step_performs, fun s nbits w hlt hw => ⟨decodeTableWord_of_lt nbits hlt, ?_⟩⟩
  exact step_performs (s := s.withFetchWord nbits w) rfl rfl ((waits_congr _ rfl rfl).trans hw)

end Sys2Proof.Machine

end

/-! ## The Bit Encoder -/

section

namespace Sys2Proof.Machine

/-- The cells of an encoded byte, a group per data bit (40_bit_encoder.md R110). -/
theorem getLsbD_enc (b : Byte) {i : Nat} (hi : i < 8) :
    (enc b).getLsbD (3 * i + 2) = true ∧ (enc b).getLsbD (3 * i + 1) = b.getLsbD i ∧
      (enc b).getLsbD (3 * i) = false := by
  have hdata (bit : Bool) : (symbolGroup bit).getLsbD 1 = bit := by cases bit <;> rfl
  interval_cases i <;>
    simp only [enc, Nat.reduceMul, Nat.reduceAdd, getLsbD_append_symbolGroup_of_lt,
      getLsbD_append_symbolGroup_add, getLsbD_symbolGroup_zero, getLsbD_symbolGroup_two, hdata,
      Nat.reduceLT, and_self]

/-- Two channel blocks with the same eight groups are the same 24 cells. -/
theorem eq_of_groups_eq {c c' : BitVec 24}
    (h : ∀ i < 8, c.getLsbD (3 * i + 2) = c'.getLsbD (3 * i + 2) ∧
      c.getLsbD (3 * i + 1) = c'.getLsbD (3 * i + 1) ∧ c.getLsbD (3 * i) = c'.getLsbD (3 * i)) :
    c = c' := by
  apply BitVec.eq_of_getLsbD_eq
  intro j hj
  obtain ⟨h2, h1, h0⟩ := h (j / 3) (by omega)
  rcases show j = 3 * (j / 3) ∨ j = 3 * (j / 3) + 1 ∨ j = 3 * (j / 3) + 2 by omega with e | e | e
  · rwa [e]
  · rwa [e]
  · rwa [e]

theorem symbolsValid_iff (c : BitVec 24) :
    symbolsValid c = true ↔
      ∀ i < 8, c.getLsbD (3 * i + 2) = true ∧ c.getLsbD (3 * i) = false := by
  simp [symbolsValid]

/-- The lowest cell of a vector that ends in one bit. -/
theorem getLsbD_append_ofBool_zero {w : Nat} (v : BitVec w) (bit : Bool) :
    (v ++ BitVec.ofBool bit).getLsbD 0 = bit := by
  rw [BitVec.getLsbD_append, if_pos Nat.one_pos, BitVec.getLsbD_ofBool, decide_eq_true rfl,
    Bool.true_and]

/-- The cells above the last bit are those of the vector before it. -/
theorem getLsbD_append_ofBool_succ {w : Nat} (v : BitVec w) (bit : Bool) (n : Nat) :
    (v ++ BitVec.ofBool bit).getLsbD (n + 1) = v.getLsbD n := by
  rw [BitVec.getLsbD_append, if_neg (by omega), Nat.add_sub_cancel]

theorem getLsbD_dec (c : BitVec 24) {i : Nat} (hi : i < 8) :
    (dec c).getLsbD i = c.getLsbD (3 * i + 1) := by
  interval_cases i <;>
    simp only [dec, getLsbD_append_ofBool_zero, getLsbD_append_ofBool_succ, BitVec.getLsbD_ofBool,
      Nat.reduceMul, Nat.reduceAdd, decide_true, Bool.true_and]

theorem dec_enc (b : Byte) : dec (enc b) = b := by
  apply BitVec.eq_of_getLsbD_eq
  intro i hi
  obtain ⟨-, hdata, -⟩ := getLsbD_enc b hi
  rw [getLsbD_dec _ hi, hdata]

/-- Settles O18. -/
theorem encoderEmitsSymbolGroups : Obligations.EncoderEmitsSymbolGroups := fun b _ => getLsbD_enc b

/-- Settles O20. -/
theorem decodedEncodingIsTheValue : Obligations.DecodedEncodingIsTheValue :=
  ⟨symbolsValid_iff, fun c _ => getLsbD_dec c, fun b => ⟨symbolsValid_enc b, dec_enc b⟩⟩

/-- Settles O21, group by group: validity fixes the outer cells, dec and enc carry the data cell over. -/
theorem validBlockIsAnEncoding : Obligations.ValidBlockIsAnEncoding := by
  intro c hc
  apply eq_of_groups_eq
  intro i hi
  obtain ⟨hhigh, hlow⟩ := (symbolsValid_iff c).mp hc i hi
  obtain ⟨ehigh, edata, elow⟩ := getLsbD_enc (dec c) hi
  exact ⟨ehigh.trans hhigh.symm, edata.trans (getLsbD_dec c hi), elow.trans hlow.symm⟩

/-- One term of `spread`: data bit `i` at its cell (40_bit_encoder.md R111). -/
def dataCell (b : Byte) (i : Nat) : BitVec 24 := if b.getLsbD i then 1#24 <<< (3 * i + 1) else 0#24

theorem getLsbD_dataCell (b : Byte) {i : Nat} (hi : i < 8) (j : Nat) :
    (dataCell b i).getLsbD j = (decide (j = 3 * i + 1) && b.getLsbD i) := by
  unfold dataCell
  rw [← BitVec.twoPow_eq]
  cases b.getLsbD i <;> simp [show 3 * i + 1 < 24 by omega, eq_comm]

/-- The part of `spread` that the data bits below `n` make (`spread_eq_spreadBelow`). -/
def spreadBelow (b : Byte) : Nat → BitVec 24
  | 0 => 0#24
  | n + 1 => spreadBelow b n + dataCell b n

theorem spread_eq_spreadBelow (b : Byte) : spread b = spreadBelow b 8 := rfl

/-- No two terms of the sum share a cell, so nothing carries: cell j is data bit j / 3 or 0. -/
theorem getLsbD_spreadBelow (b : Byte) {n : Nat} (hn : n ≤ 8) (j : Nat) :
    (spreadBelow b n).getLsbD j = (decide (j / 3 < n ∧ j % 3 = 1) && b.getLsbD (j / 3)) := by
  induction n generalizing j with
  | zero => simp [spreadBelow]
  | succ n ih =>
    have hdisjoint : spreadBelow b n &&& dataCell b n = 0#24 := by
      apply BitVec.eq_of_getLsbD_eq
      intro j _
      rw [BitVec.getLsbD_and, ih (by omega), getLsbD_dataCell b hn]
      by_cases hj : j = 3 * n + 1
      · simp [show ¬ j / 3 < n by omega]
      · simp [hj]
    rw [spreadBelow, BitVec.add_eq_or_of_and_eq_zero _ _ hdisjoint, BitVec.getLsbD_or, ih (by omega),
      getLsbD_dataCell b hn]
    by_cases hj : j = 3 * n + 1
    · simp [hj, show (3 * n + 1) / 3 = n by omega, show (3 * n + 1) % 3 = 1 by omega]
    · have hother : (j / 3 < n + 1 ∧ j % 3 = 1) = (j / 3 < n ∧ j % 3 = 1) := propext (by omega)
      simp only [hother, hj, decide_false, Bool.false_and, Bool.or_false]

/-- The closed form (40_bit_encoder.md R111): the constant gives the high cells, `spread` the data cells. -/
theorem enc_eq_or_spread (b : Byte) : enc b = 0x924924#24 ||| spread b := by
  have hconst : ∀ i < 8, (0x924924#24).getLsbD (3 * i + 2) = true ∧
      (0x924924#24).getLsbD (3 * i + 1) = false ∧ (0x924924#24).getLsbD (3 * i) = false := by decide
  apply eq_of_groups_eq
  intro i hi
  obtain ⟨khigh, kdata, klow⟩ := hconst i hi
  obtain ⟨ehigh, edata, elow⟩ := getLsbD_enc b hi
  simp only [BitVec.getLsbD_or, spread_eq_spreadBelow, getLsbD_spreadBelow b (Nat.le_refl 8),
    khigh, kdata, klow, ehigh, edata, elow]
  have hq : (3 * i + 1) / 3 = i := by omega
  simp [hq, hi]

/-- Settles O19; the encoder is injective because `dec` undoes it. -/
theorem encoderClosedForm : Obligations.EncoderClosedForm := by
  refine ⟨enc_eq_or_spread, by decide, by decide, by decide, by decide, fun b b' h => ?injective⟩
  case injective => rw [← dec_enc b, h, dec_enc]

/-- Settles O22. -/
theorem encRegisterWriteAndRead : Obligations.EncRegisterWriteAndRead := by
  have hread (s : State) : exec .rdEnc s = .next { s with q := some (0#8 ++ enc s.encIn) } := by
    have hzext : zext (enc s.encIn) = 0#8 ++ enc s.encIn := BitVec.setWidth_eq_append (by decide)
    rw [← hzext]
    rfl
  have hreset (p : Params) : 0#8 ++ enc (State.powerOn p).encIn = 0x00924924 := by
    change 0#8 ++ enc 0 = 0x00924924
    decide
  exact fun d s => ⟨rfl, hread s, fun p => by rw [hread, hreset]⟩

end Sys2Proof.Machine

end

/-! ## The shifter, cell by cell -/

section

namespace Sys2Proof.Machine

/-- The state with the shifter at cell `c` of the frame (20_memory.md R65 (c)). -/
def atCell (c : Nat) (s : State) : State :=
  { s with txByte := BitVec.ofNat 20 (c / 8), txBit := BitVec.ofNat 3 (7 - c % 8) }

@[simp] theorem atCell_txActive (c : Nat) (s : State) : (atCell c s).txActive = s.txActive := rfl

@[simp] theorem atCell_txLen (c : Nat) (s : State) : (atCell c s).txLen = s.txLen := rfl

/-- The state with these cells sent: they are on the trace, after what was there. -/
def sent (cells : List Bool) (s : State) : State := { s with trace := s.trace ++ cells }

theorem sent_sent (l l' : List Bool) (s : State) : sent l' (sent l s) = sent (l ++ l') s := by
  simp [sent]

/-- Every state is at the cell that its count of sent cells names. -/
theorem atCell_cellsSent (s : State) : atCell (cellsSent s) s = s := by
  have hbit := s.txBit.isLt
  have hq : cellsSent s / 8 = s.txByte.toNat := by unfold cellsSent; omega
  have hr : 7 - cellsSent s % 8 = s.txBit.toNat := by unfold cellsSent; omega
  rw [atCell, hq, hr, BitVec.ofNat_toNat, BitVec.ofNat_toNat, BitVec.setWidth_eq, BitVec.setWidth_eq]

theorem txBit_atCell (c : Nat) (s : State) : (atCell c s).txBit.toNat = 7 - c % 8 :=
  Nat.mod_eq_of_lt (by omega)

theorem txByte_atCell {c : Nat} {s : State} (hc : c < 8 * s.txLen.toNat) :
    (atCell c s).txByte.toNat = c / 8 := by
  have := s.txLen.isLt
  exact Nat.mod_eq_of_lt (by omega)

/-- DOUT shows the cell the shifter is at. -/
theorem dout_atCell {c : Nat} {s : State} (ht : s.txActive = true) (hc : c < 8 * s.txLen.toNat) :
    dout (atCell c s) = frameCell s c := by
  rw [dout, atCell_txActive, if_pos ht, txByte_atCell hc, txBit_atCell]
  rfl

/-- A shifter step before the last cell sends its cell and moves on to the next. -/
theorem shiftStep_atCell_of_lt {c : Nat} {s : State} (ht : s.txActive = true)
    (hc : c + 1 < 8 * s.txLen.toNat) :
    shiftStep (atCell c s) = atCell (c + 1) (sent [frameCell s c] s) := by
  have hbyte := txByte_atCell (c := c) (s := s) (by omega)
  have hbit := txBit_atCell c s
  rw [← dout_atCell ht (by omega)]
  rcases shiftStep_cases (atCell c s) with ⟨hidle, -⟩ | ⟨-, hb, e⟩ | ⟨-, hb, -, e⟩ | ⟨-, hb, hl, -⟩
  · exact absurd hidle (by simp [ht])
  · have hq : (c + 1) / 8 = c / 8 := by omega
    have hr : 7 - c % 8 = 7 - (c + 1) % 8 + 1 := by omega
    have hmove : (atCell c s).txBit - 1 = BitVec.ofNat 3 (7 - (c + 1) % 8) := by
      rw [atCell, hr, BitVec.ofNat_add]
      exact BitVec.add_sub_cancel _ _
    rw [e, hmove, atCell, atCell, hq]
    rfl
  · have hq : (c + 1) / 8 = c / 8 + 1 := by omega
    have hr : (c + 1) % 8 = 0 := by omega
    rw [e, atCell, atCell, hq, hr, BitVec.ofNat_add]
    rfl
  · rw [atCell_txLen] at hl
    omega

/-- The shifter step that sends the last cell completes the transfer (44_transfer_engine.md R180). -/
theorem shiftStep_atCell_last {c : Nat} {s : State} (ht : s.txActive = true)
    (hc : c + 1 = 8 * s.txLen.toNat) :
    shiftStep (atCell c s) = complete (sent [frameCell s c] s) := by
  have hbyte := txByte_atCell (c := c) (s := s) (by omega)
  have hbit := txBit_atCell c s
  rw [← dout_atCell ht (by omega)]
  rcases shiftStep_cases (atCell c s) with ⟨hidle, -⟩ | ⟨-, hb, -⟩ | ⟨-, -, hl, -⟩ | ⟨-, -, -, e⟩
  · exact absurd hidle (by simp [ht])
  · omega
  · rw [atCell_txLen] at hl
    omega
  · rw [e]
    rfl

theorem shiftSteps_succ (n : Nat) (s : State) :
    shiftSteps (n + 1) s = shiftStep (shiftSteps n s) := by
  induction n generalizing s with
  | zero => rfl
  | succ n ih => exact ih (shiftStep s)

/-- While the frame is not sent whole, `n` steps send the next `n` cells and the transfer stays in flight. -/
theorem shiftSteps_atCell_of_lt {n c : Nat} {s : State} (ht : s.txActive = true)
    (hc : c + n < 8 * s.txLen.toNat) :
    shiftSteps n (atCell c s) = atCell (c + n) (sent ((List.range' c n).map (frameCell s)) s) := by
  induction n with
  | zero => simp [shiftSteps, sent]
  | succ n ih =>
    have hstep := shiftStep_atCell_of_lt (c := c + n)
      (s := sent ((List.range' c n).map (frameCell s)) s) ht hc
    rw [shiftSteps_succ, ih (by omega), hstep, sent_sent, List.range'_1_concat, List.map_append]
    rfl

/-- The steps that send the rest of the frame put it on the trace and complete the transfer. -/
theorem shiftSteps_atCell_end {n c : Nat} {s : State} (ht : s.txActive = true)
    (hc : c + n + 1 = 8 * s.txLen.toNat) :
    shiftSteps (n + 1) (atCell c s) =
      complete (sent ((List.range' c (n + 1)).map (frameCell s)) s) := by
  have hlast := shiftStep_atCell_last (c := c + n)
    (s := sent ((List.range' c n).map (frameCell s)) s) ht hc
  rw [shiftSteps_succ, shiftSteps_atCell_of_lt ht (by omega), hlast, sent_sent,
    List.range'_1_concat, List.map_append]
  rfl

end Sys2Proof.Machine

end

/-! ## The cell stream of a rendered frame -/

section

namespace Sys2Proof.Machine

/-- Bit `i` of byte `m` of a channel block is its cell 8 m + i (40_bit_encoder.md R112). -/
theorem getLsbD_blockByte (e : BitVec 24) (m : Fin 3) {i : Nat} (hi : i < 8) :
    (blockByte e m).getLsbD (7 - i) = e.getMsbD (8 * m.val + i) := by
  have hcell : 16 - 8 * m.val + (7 - i) = 24 - 1 - (8 * m.val + i) := by omega
  rw [blockByte, BitVec.getLsbD_extractLsb', BitVec.getMsbD_eq_getLsbD, hcell,
    decide_eq_true (by omega), decide_eq_true (by omega)]

/-- The 24 cells of channel position `k` of an LED block are that channel encoded (40_bit_encoder.md R114). -/
theorem getMsbD_ledBlock (order : ChannelOrder) (c : Rgb) (k : Fin 3) {i : Nat} (hi : i < 24) :
    (ledBlock order c).getMsbD (24 * k.val + i) = (enc (chan c (channelAt order k))).getMsbD i := by
  rw [ledBlock, BitVec.getMsbD_append, BitVec.getMsbD_append]
  match k with
  | 0 => rw [if_neg (by simp; omega), if_neg (by simp; omega)]; simp
  | 1 => rw [if_neg (by simp; omega), if_pos (by simp)]; simp
  | 2 => rw [if_pos (by simp)]; simp

section

variable {s t : State} (h : Inv s) (hf : t.frame = renderedFrame s)

include h hf

/-- The cells around the payload of a rendered frame are low (20_memory.md R62). -/
theorem frameCell_outside_of_rendered {n : Nat}
    (hn : n < leadCells s.params ∨
      leadCells s.params + payloadCells s.ledCount.toNat ≤ n) : frameCell t n = false := by
  have hzero : frameRead t (n / 8) = 0 := by
    rw [frameRead, hf]
    exact read_renderedFrame_outside h (by simp only [leadCells, payloadCells] at hn; omega)
  rw [frameCell, hzero]
  exact BitVec.getLsbD_zero

/-- The 72 cells of a slot of a rendered frame are the LED block of the color of its logical index. -/
theorem frameCell_payload_of_rendered {sl j : Nat} (hsl : sl < s.ledCount.toNat) (hj : j < 72) :
    frameCell t (leadCells s.params + (72 * sl + j)) =
      (ledBlock s.params.channelOrder (resolve s (slot s sl))).getMsbD j := by
  obtain ⟨k, m, i, hi, rfl⟩ : ∃ (k m : Fin 3) (i : Nat), i < 8 ∧ j = 24 * k.val + (8 * m.val + i) :=
    ⟨⟨j / 24, by omega⟩, ⟨j % 24 / 8, by omega⟩, j % 8, by omega, by simp only; omega⟩
  have hbyte : (leadCells s.params + (72 * sl + (24 * k.val + (8 * m.val + i)))) / 8 =
      blockBase s.params sl k + m.val := by simp only [leadCells, blockBase]; omega
  have hbit : (leadCells s.params + (72 * sl + (24 * k.val + (8 * m.val + i)))) % 8 = i := by
    simp only [leadCells]; omega
  rw [frameCell, hbyte, hbit, frameRead, hf, read_renderedFrame_block h hsl, getLsbD_blockByte _ _ hi,
    getMsbD_ledBlock _ _ _ (by omega)]

end

/-- A range of `k * n` numbers, as `n` stretches of `k`. -/
theorem map_range_mul {α : Type} (f : Nat → α) (k n : Nat) :
    (List.range (k * n)).map f =
      (List.range n).flatMap fun i => (List.range k).map fun j => f (k * i + j) := by
  induction n with
  | zero => simp
  | succ n ih => simp [Nat.mul_succ, List.range_add, List.range_succ, ih, Function.comp_def]

/-- The cells of a rendered frame, in order, are the cell stream (40_bit_encoder.md R115). -/
theorem map_frameCell_of_rendered {s t : State} (h : Inv s) (hf : t.frame = renderedFrame s) :
    (List.range (frameCells s.params s.ledCount.toNat)).map (frameCell t) = cellStream s := by
  have hsplit : frameCells s.params s.ledCount.toNat =
      leadCells s.params + 72 * s.ledCount.toNat + latchCells s.params := by
    simp only [frameCells, frameLen, leadCells, latchCells]
    omega
  have hlow (g : Nat → Nat) (n : Nat) (hg : ∀ i < n, g i < leadCells s.params ∨
      leadCells s.params + payloadCells s.ledCount.toNat ≤ g i) :
      (List.range n).map (fun i => frameCell t (g i)) = List.replicate n false := by
    rw [List.eq_replicate_iff, List.length_map, List.length_range]
    refine ⟨rfl, fun b hb => ?_⟩
    obtain ⟨i, hi, rfl⟩ := List.mem_map.mp hb
    exact frameCell_outside_of_rendered h hf (hg i (List.mem_range.mp hi))
  have hpayload : (List.range (72 * s.ledCount.toNat)).map
      (fun n => frameCell t (leadCells s.params + n)) =
      (List.range s.ledCount.toNat).flatMap
        (fun sl => bitsMsbFirst (ledBlock s.params.channelOrder (resolve s (slot s sl)))) := by
    rw [map_range_mul]
    refine List.flatMap_congr fun sl hsl => List.map_congr_left fun j hj => ?_
    exact frameCell_payload_of_rendered h hf (List.mem_range.mp hsl) (List.mem_range.mp hj)
  rw [hsplit, List.range_add, List.range_add, List.map_append, List.map_append, List.map_map,
    List.map_map, cellStream, ← hpayload,
    ← hlow (fun n => n) (leadCells s.params) fun i hi => .inl hi,
    ← hlow (leadCells s.params + 72 * s.ledCount.toNat + ·) (latchCells s.params)
      fun i _ => .inr (Nat.le_add_right _ i)]
  rfl

/-- The cell stream is as long as the frame (70_reset_and_hazards.md R240). -/
theorem length_cellStream {s : State} (h : Inv s) :
    (cellStream s).length = frameCells s.params s.ledCount.toNat := by
  rw [← map_frameCell_of_rendered (t := render s) h rfl, List.length_map, List.length_range]

/-- A TICK that renders a frame of at least one byte puts the shifter in flight at its first cell. -/
theorem tick_starts_transfer {s : State} (hr : tickRenders s)
    (hl : 0 < frameLen s.params s.ledCount.toNat) :
    let t := renderIfDue (expireOverlay s.nowUs s)
    t.txActive = true ∧ t.txLen.toNat = frameLen s.params s.ledCount.toNat ∧ t.trace = s.trace ∧
      atCell 0 t = t := by
  rcases tick_cases s with ⟨-, -, e⟩ | ⟨-, h0, -⟩ | ⟨hn, -⟩
  · rw [e]
    exact ⟨rfl, frameLen_toNat _ _, rfl, rfl⟩
  · omega
  · exact absurd hr hn

theorem dout_of_idle {s : State} (h : s.txActive = false) : dout s = false := by
  simp [dout, h]

/-- Settles O49: the transfer sends the frame from cell 0 to its end, and the frame is the cell stream. -/
theorem tickSendsTheCellStream : Obligations.TickSendsTheCellStream := by
  intro d s h hr hl
  have hx : Inv (expireOverlay s.nowUs s) := expireOverlay_keeps_inv h s.nowUs
  have hlength := length_cellStream hx
  have hcells := map_frameCell_of_rendered hx (tick_frame hr)
  rw [expireOverlay_params, expireOverlay_ledCount] at hlength hcells
  refine ⟨hlength, _, rfl, ?_⟩
  obtain ⟨hbusy, hlen, htrace, hstart⟩ := tick_starts_transfer hr hl
  obtain ⟨n, hn⟩ : ∃ n, frameCells s.params s.ledCount.toNat = n + 1 :=
    Nat.exists_eq_add_one.mpr (by unfold frameCells; omega)
  have hend := shiftSteps_atCell_end (n := n) (c := 0) hbusy (by rw [hlen, Nat.zero_add, ← hn]; rfl)
  rw [hstart, ← hn, ← List.range_eq_range', hcells] at hend
  simp only [hend]
  exact ⟨congrArg (· ++ _) htrace, rfl, rfl, fun v => dout_of_idle⟩

end Sys2Proof.Machine

end

/-! ## The fields of the word a read returns -/

section

namespace Sys2Proof.Machine

/-- Zero-extension keeps every bit: the bits above the field read 0 on both sides (30_encoding.md R93). -/
theorem getLsbD_zext {w : Nat} (hw : w ≤ 32) (v : BitVec w) (i : Nat) :
    (zext v).getLsbD i = v.getLsbD i := by
  rw [zext, BitVec.getLsbD_setWidth, Bool.and_eq_right_iff_imp]
  exact fun hi => decide_eq_true (Nat.lt_of_lt_of_le (BitVec.lt_of_getLsbD hi) hw)

/-- A field below bit 32 of a zero-extended vector is that field of the vector. -/
theorem extractLsb'_zext {w start len : Nat} (h : start + len ≤ 32) (v : BitVec w) :
    (zext v).extractLsb' start len = v.extractLsb' start len :=
  BitVec.extractLsb'_setWidth_of_le h

/-- Answering with a zero-extended element, in the form the obligations write: zeros put before it. -/
theorem answer_zext {k w : Nat} (h : k + w = 32) (v : BitVec w) (s : State) :
    answer (zext v) s = .next { s with q := some ((0#k ++ v).cast h) } := by
  obtain rfl : k = 32 - w := by omega
  rw [answer_eq, zext, BitVec.setWidth_eq_append (by omega)]

/-- Settles O29: five elements are zero-extended, three are a whole word. -/
theorem plainRegisterReads : Obligations.PlainRegisterReads := fun s =>
  ⟨answer_zext (k := 16) rfl s.ledCount s, answer_zext (k := 16) rfl s.pixIndex s,
    answer_zext (k := 8) rfl s.ovColorStg s, answer_zext (k := 16) rfl s.ovCountStg s,
    answer_eq s.ovDurStg s, answer_eq s.ovStart s, answer_eq s.nowUs s,
    answer_zext (k := 12) rfl s.frameIndex s, rfl⟩

/-- Settles O23: the word is the three parameters put together (41_config_status.md R120). -/
theorem capsReadsBuildParameters : Obligations.CapsReadsBuildParameters := fun s =>
  ⟨s.params.trailBytes ++ s.params.leadBytes ++ s.params.maxLeds, rfl,
    BitVec.extractLsb'_append_eq_right,
    (BitVec.extractLsb'_append_eq_of_le (by decide)).trans BitVec.extractLsb'_append_eq_right,
    (BitVec.extractLsb'_append_eq_of_le (by decide)).trans BitVec.extractLsb'_append_eq_left⟩

/-- Settles O25. -/
theorem ctrlRead : Obligations.CtrlRead := by
  intro s
  have hbit := getLsbD_zext (by decide) (BitVec.ofBool s.irqEn ++ BitVec.ofBool s.reverse)
  refine ⟨_, rfl, ?reverse, ?irqEn, fun i hi => ?reserved⟩
  case reverse => rw [hbit, getLsbD_append_ofBool_zero]
  case irqEn => rw [hbit, getLsbD_append_ofBool_succ]; simp
  case reserved => rw [hbit]; exact BitVec.getLsbD_of_ge _ _ hi

end Sys2Proof.Machine

end

/-! ## The STATUS word -/

section

namespace Sys2Proof.Machine

theorem phase_eq_idle_iff (s : State) : phase s = .idle ↔ s.txActive = false := by
  unfold phase
  by_cases h : s.txActive = false
  · simp [h]
  · rw [if_neg h]
    split_ifs <;> simp [h]

theorem phaseCode_ne_zero_iff (p : Phase) : phaseCode p ≠ 0 ↔ p ≠ .idle := by
  cases p <;> decide

/-- PHASE reads nonzero exactly while a transfer is in flight (41_config_status.md R123). -/
theorem phaseCode_phase_ne_zero_iff (s : State) : phaseCode (phase s) ≠ 0 ↔ s.txActive = true := by
  rw [phaseCode_ne_zero_iff, Ne, phase_eq_idle_iff, Bool.not_eq_false]

/-- The single-bit fields of the STATUS word (10_state.md R33). -/
theorem getLsbD_statusWord (s : State) :
    (statusWord s).getLsbD 0 = s.txActive ∧ (statusWord s).getLsbD 1 = s.dirty ∧
    (statusWord s).getLsbD 2 = s.ovActive ∧ (statusWord s).getLsbD 8 = s.done ∧
    (statusWord s).getLsbD 9 = s.errRange ∧ (statusWord s).getLsbD 10 = s.errCmd := by
  simp only [statusWord, getLsbD_zext, BitVec.getLsbD_append, BitVec.getLsbD_ofBool,
    Nat.reduceLeDiff, Nat.reduceLT, Nat.reduceSub, decide_true, Bool.true_and, if_true, if_false, and_self]

theorem getLsbD_statusWord_of_ge (s : State) {i : Nat} (hi : 11 ≤ i) :
    (statusWord s).getLsbD i = false := by
  rw [statusWord, getLsbD_zext (by decide)]
  exact BitVec.getLsbD_of_ge _ _ hi

/-- STATUS.PHASE, and the reserved bits above it (10_state.md R33). -/
theorem extractLsb'_statusWord (s : State) :
    (statusWord s).extractLsb' 3 2 = phaseCode (phase s) ∧
    (statusWord s).extractLsb' 5 3 = 0#3 := by
  simp only [statusWord, extractLsb'_zext, BitVec.extractLsb'_append_eq_of_le,
    BitVec.extractLsb'_append_eq_right, Nat.reduceLeDiff, Nat.reduceSub, and_self]

/-- Settles O26. -/
theorem statusRead : Obligations.StatusRead := by
  intro s
  obtain ⟨hbusy, hdirty, hov, hdone, hrange, hcmd⟩ := getLsbD_statusWord s
  obtain ⟨hphase, hreserved⟩ := extractLsb'_statusWord s
  refine ⟨statusWord s, rfl, hbusy, hdirty, hov, hphase, hreserved, hdone, hrange, hcmd,
    fun i => getLsbD_statusWord_of_ge s, ?_⟩
  rw [hbusy, hphase, phaseCode_phase_ne_zero_iff]

theorem w1c_eq_ite (flag clear : Bool) : w1c flag clear = if clear = true then false else flag := by
  cases clear <;> simp [w1c]

theorem exec_wrStatus (d : Word) (s : State) :
    exec (.wrStatus d) s = .next { s with
      done := if d.getLsbD 8 = true then false else s.done
      errRange := if d.getLsbD 9 = true then false else s.errRange
      errCmd := if d.getLsbD 10 = true then false else s.errCmd } := by
  simp only [← w1c_eq_ite]
  rfl

/-- Settles O27; IRQ is low because DONE is. -/
theorem statusWriteClearsStickyFlags : Obligations.StatusWriteClearsStickyFlags := fun d s =>
  ⟨_, exec_wrStatus d s, rfl, fun hd => by simp [irq, hd]⟩

end Sys2Proof.Machine

end

/-! ## Writes to CTRL and LED_COUNT -/

section

namespace Sys2Proof.Machine

theorem exec_wrCtrl (d : Word) (s : State) :
    exec (.wrCtrl d) s = .next { s with
      reverse := d.getLsbD 0
      irqEn := d.getLsbD 1
      dirty := s.dirty || (d.getLsbD 0 != s.reverse) } := by
  have hdirty : (s.dirty || (d.getLsbD 0 != s.reverse)) =
      if d.getLsbD 0 = s.reverse then s.dirty else true := by
    by_cases h : d.getLsbD 0 = s.reverse
    · rw [if_pos h, h, bne_self_eq_false, Bool.or_false]
    · rw [if_neg h, bne_iff_ne.mpr h, Bool.or_true]
  rw [hdirty]
  rfl

/-- Settles O24; IRQ is high because DONE stays set. -/
theorem ctrlWrite : Obligations.CtrlWrite := fun d s =>
  ⟨_, exec_wrCtrl d s, rfl, fun hdone hen => by simp [irq, hdone, hen], rfl⟩

theorem exec_wrLedCount_of_illegal {d : Word} {s : State} (h : ledCountLegal d s = false) :
    exec (.wrLedCount d) s = .next { s with errRange := true } := by
  rw [exec, execWrLedCount, if_pos h, raiseErrRange]

theorem exec_wrLedCount_of_idle {d : Word} {s : State} (h : ledCountLegal d s = true)
    (ht : s.txActive = false) :
    exec (.wrLedCount d) s = .next { s with ledCount := d.extractLsb' 0 16, dirty := true } := by
  rw [exec, execWrLedCount, if_neg (by simp [h]), if_neg (by simp [ht]), markDirty, field16]

theorem exec_wrLedCount_of_busy {d : Word} {s : State} (h : ledCountLegal d s = true)
    (ht : s.txActive = true) : exec (.wrLedCount d) s = .next s := by
  rw [exec, execWrLedCount, if_neg (by simp [h]), if_pos ht, held_eq]

theorem waits_wrLedCount (d : Word) (s : State) :
    waits (.wrLedCount d) s = (s.txActive && ledCountLegal d s) := rfl

/-- Settles O28, by the legality of the count and the busy condition. -/
theorem ledCountWrite : Obligations.LedCountWrite := by
  intro d s n
  have hlegal (h : n ≤ s.params.maxLeds) : ledCountLegal d s = true := decide_eq_true h
  refine ⟨fun h => ?above, fun h ht => ?idle, fun h ht => ?busy⟩
  case above =>
    have hillegal : ledCountLegal d s = false := decide_eq_false (Nat.not_le_of_lt h)
    exact ⟨exec_wrLedCount_of_illegal hillegal, by simp [waits_wrLedCount, hillegal]⟩
  case idle =>
    exact ⟨exec_wrLedCount_of_idle (hlegal h) ht, by simp [waits_wrLedCount, ht]⟩
  case busy =>
    exact ⟨exec_wrLedCount_of_busy (hlegal h) ht, by simp [waits_wrLedCount, ht, hlegal h]⟩

end Sys2Proof.Machine

end

/-! ## Writes without effect, and reads of nothing -/

section

namespace Sys2Proof.Machine

/-- Settles O31, row by row: each is ignored. -/
theorem writesWithoutEffect : Obligations.WritesWithoutEffect := by
  intro i a d s hi
  simp only [List.mem_cons, List.not_mem_nil, or_false] at hi
  rcases hi with rfl | rfl | rfl | rfl | rfl | rfl | rfl | rfl | rfl | rfl | rfl <;>
    exact ⟨ignored_eq s, rfl⟩

/-- Settles O32, row by row: each answers 0. -/
theorem writeOnlyAndReservedReadsReturnZero : Obligations.WriteOnlyAndReservedReadsReturnZero := by
  intro i a s hi
  simp only [List.mem_cons, List.not_mem_nil, or_false] at hi
  rcases hi with rfl | rfl | rfl | rfl | rfl | rfl <;> exact answer_eq 0 s

end Sys2Proof.Machine

end

/-! ## The pixel store's operations -/

section

namespace Sys2Proof.Machine

theorem pixIndexInRange_of_lt {s : State} (h : s.pixIndex < s.ledCount) : pixIndexInRange s = true :=
  decide_eq_true h

theorem pixIndexInRange_of_ge {s : State} (h : s.ledCount ≤ s.pixIndex) : pixIndexInRange s = false :=
  decide_eq_false (Nat.not_lt_of_le h)

theorem exec_wrPixData_of_lt {s : State} (h : s.pixIndex < s.ledCount) (d : Word) :
    exec (.wrPixData d) s = .next { s with
      pix := Memory.write s.pix s.pixIndex.toNat (d.extractLsb' 0 24)
      dirty := true } := by
  rw [exec, execWrPixData, if_pos (pixIndexInRange_of_lt h), markDirty, pixWrite, fieldRgb]

theorem exec_wrPixData_of_ge {s : State} (h : s.ledCount ≤ s.pixIndex) (d : Word) :
    exec (.wrPixData d) s = .next { s with errRange := true } := by
  rw [exec, execWrPixData, if_neg (by simp [pixIndexInRange_of_ge h]), raiseErrRange]

theorem exec_wrPixFill (d : Word) (s : State) :
    exec (.wrPixFill d) s = .next { s with
      pix := Memory.fillBelow s.ledCount.toNat (d.extractLsb' 0 24) s.pix
      dirty := true } := rfl

/-- Settles O34: in range the entry is written as `Memory.read_write` says. -/
theorem pixDataWrite : Obligations.PixDataWrite := fun d _ hwf =>
  ⟨rfl,
    fun hlt => ⟨_, exec_wrPixData_of_lt hlt d, rfl, Memory.read_write hwf _ _⟩,
    fun hge => exec_wrPixData_of_ge hge d⟩

/-- Settles O36: the entries below LED_COUNT are filled as `Memory.read_fillBelow` says. -/
theorem pixFillWritesTheStrip : Obligations.PixFillWritesTheStrip := fun d s =>
  ⟨rfl, _, exec_wrPixFill d s, rfl, Memory.read_fillBelow _ _ _⟩

/-- Settles O30: each row stores its field and returns. -/
theorem plainRegisterWrites : Obligations.PlainRegisterWrites := fun _ _ =>
  ⟨rfl, rfl, rfl, rfl, rfl⟩

/-- Settles O35: the answer turns on the index alone, and the stored word is zero-extended. -/
theorem pixDataRead : Obligations.PixDataRead := by
  intro s
  refine ⟨fun hlt => ?inRange, fun hge => ?outOfRange⟩
  case inRange =>
    rw [exec, execRdPixData, if_pos (pixIndexInRange_of_lt hlt)]
    exact answer_zext (k := 8) rfl (pixRead s s.pixIndex.toNat) s
  case outOfRange =>
    rw [exec, execRdPixData, if_neg (by simp [pixIndexInRange_of_ge hge]), answer_eq]

end Sys2Proof.Machine

end

/-! ## The overlay: SPLASH, expiry, and the pixel store it hides -/

section

namespace Sys2Proof.Machine

/-- The elapsed time in naturals: the difference modulo 2^32 (00_scope.md R10). -/
theorem toNat_elapsed (now : Word) (s : State) :
    (elapsed now s).toNat = (now.toNat + (2 ^ 32 - s.ovStart.toNat)) % 2 ^ 32 := by
  rw [elapsed, BitVec.toNat_sub, Nat.add_comm]

theorem expired_iff (now : Word) (s : State) :
    expired now s = true ↔ s.ovActive = true ∧ s.ovDur.toNat ≤ (elapsed now s).toNat := by
  rw [expired, Bool.and_eq_true, decide_eq_true_iff]

theorem expireOverlay_of_not_expired {now : Word} {s : State} (h : expired now s = false) :
    expireOverlay now s = s :=
  if_neg (by simp [h])

/-- An active overlay gives every LED its color: the pixel store is not read (43_overlay.md R150, R161). -/
theorem resolve_setPix {s : State} (ha : s.ovActive = true) (m : Memory 24) (i : Nat) :
    resolve { s with pix := m } i = resolve s i := by
  simp only [resolve, ha, if_true]

/-- A color reaches the frame through `resolve` alone. -/
theorem renderLed_setPix {s : State} (ha : s.ovActive = true) (m : Memory 24) :
    renderLed { s with pix := m } = renderLed s := by
  funext f i
  simp only [renderLed, resolve_setPix ha, slot]

theorem render_setPix {s : State} (ha : s.ovActive = true) (m : Memory 24) :
    render { s with pix := m } = { render s with pix := m } := by
  rw [render, render, renderedFrame, renderedFrame, renderLed_setPix ha]

/-- Issuing a transfer neither reads nor writes the pixel store. -/
theorem issue_setPix (s : State) (m : Memory 24) :
    issue { s with pix := m } = { issue s with pix := m } := by
  rcases Nat.eq_zero_or_pos (frameLen s.params s.ledCount.toNat) with hl | hl
  · rw [issue_of_zero hl, issue_of_zero (by exact hl)]
  · rw [issue_of_pos hl, issue_of_pos (by exact hl)]

/-- Under an active overlay the gate, the render and the issue carry the pixel store along unread. -/
theorem renderIfDue_setPix {s : State} (ha : s.ovActive = true) (m : Memory 24) :
    renderIfDue { s with pix := m } = { renderIfDue s with pix := m } := by
  rcases renderIfDue_cases s with ⟨hd, h⟩ | ⟨hd, ht, h⟩ | ⟨hd, ht, h⟩
  · rw [h, renderIfDue, if_pos hd]
  · rw [h, renderIfDue, if_neg (by simp [hd]), if_pos ht]
  · rw [h, renderIfDue, if_neg (by simp [hd]), if_neg (by simp [ht]), render_setPix ha, issue_setPix]

/-- Settles O37: the record is what SPLASH stores, and SPLASH is no row that waits. -/
theorem splashStartsTheStagedOverlay : Obligations.SplashStartsTheStagedOverlay :=
  fun _ _ => ⟨rfl, rfl⟩

/-- Settles O38: with duration 0 any elapsed time has reached it. -/
theorem overlayExpiryPredicate : Obligations.OverlayExpiryPredicate := by
  intro now s
  refine ⟨?predicate, fun ha hdur => ?zeroDuration⟩
  case predicate => rw [expired_iff, toNat_elapsed]
  case zeroDuration =>
    have hle : s.ovDur.toNat ≤ (elapsed now s).toNat := by simp [hdur]
    exact (expired_iff now s).mpr ⟨ha, hle⟩

/-- Settles O39: the expiry step changes nothing, and the rest of the TICK carries the store along unread. -/
theorem activeOverlayHidesPixelStore : Obligations.ActiveOverlayHidesPixelStore := by
  intro d s m ha hx
  have hx' : expired s.nowUs { s with pix := m } = false := hx
  refine ⟨_, _, rfl, rfl, ?_⟩
  rw [expireOverlay_of_not_expired hx, expireOverlay_of_not_expired hx']
  exact renderIfDue_setPix ha m

end Sys2Proof.Machine

end

/-! ## TICK: the gate, the issue and the mirrored frame -/

section

namespace Sys2Proof.Machine

/-- A TICK that does not render is its expiry step (44_transfer_engine.md R171, R173). -/
theorem exec_tick_of_not_renders {s : State} (hr : ¬ tickRenders s) (d : Word) :
    exec (.tick d) s = .next (expireOverlay s.nowUs s) := by
  rcases tick_cases s with ⟨h, -⟩ | ⟨h, -⟩ | ⟨-, e⟩
  · exact absurd h hr
  · exact absurd h hr
  · exact congrArg Host.Outcome.next (e.trans (expireOverlay_eq _ _).symm)

/-- Settles O40: busy, or clean and not expired, the TICK does not render. -/
theorem tickGate : Obligations.TickGate := by
  intro d s
  refine ⟨fun hb => ?busy, fun hd hx => ?clean, fun hr => ?gated, rfl⟩
  case busy => exact exec_tick_of_not_renders (fun ⟨_, ht⟩ => by simp [hb] at ht) d
  case clean =>
    have hr : ¬ tickRenders s := by simp [tickRenders, hd, hx]
    rw [exec_tick_of_not_renders hr, expireOverlay_of_not_expired hx]
  case gated => rw [exec_tick_of_not_renders hr, expireOverlay_eq]

/-- Settles O41, by the two ways a TICK that renders can end. -/
theorem tickIssuesOneTransfer : Obligations.TickIssuesOneTransfer := by
  intro d s hr
  rcases tick_cases s with ⟨-, hl, e⟩ | ⟨-, h0, e⟩ | ⟨hn, -⟩
  · exact ⟨_, congrArg Host.Outcome.next e, fun _ => ⟨rfl, frameLen_toNat _ _, rfl⟩,
      fun h0 => by omega⟩
  · exact ⟨_, congrArg Host.Outcome.next e, fun hl => by omega, fun _ => rfl⟩
  · exact absurd hr hn

/-- Settles O43: the slot map is its own inverse, so a slot is that of its own slot and of no other index. -/
theorem slotIsABijection : Obligations.SlotIsABijection := fun s =>
  ⟨fun _ hi => ⟨slot_lt hi, slot_slot hi, rfl⟩, fun sl hsl =>
    ⟨slot s sl, slot_lt hsl, slot_slot hsl, fun i' hi' (he : slot s i' = sl) => by
      rw [← he, slot_slot hi']⟩⟩

/-- A byte of a slot of the frame a TICK renders (20_memory.md R63; 44_transfer_engine.md R176). -/
theorem frameRead_tick_block {s : State} (h : Inv s) (hr : tickRenders s) {sl : Nat}
    (hsl : sl < s.ledCount.toNat) (k m : Fin 3) :
    frameRead (renderIfDue (expireOverlay s.nowUs s)) (blockBase s.params sl k + m.val) =
      blockByte (enc (chan (resolve (expireOverlay s.nowUs s) (slot s sl))
        (channelAt s.params.channelOrder k))) m := by
  have hbyte := read_renderedFrame_block (expireOverlay_keeps_inv h s.nowUs) (sl := sl)
    (by simpa using hsl) k m
  rwa [slot_expireOverlay, expireOverlay_params, ← tick_frame hr] at hbyte

/-- Settles O44: slot `sl` of the reversed frame and slot N - 1 - sl of the normal one carry the logical index
N - 1 - sl, whose color does not depend on the direction. -/
theorem reversedFrameMirrorsNormalFrame : Obligations.ReversedFrameMirrorsNormalFrame := by
  intro d s h hr
  refine ⟨_, _, rfl, rfl, fun sl hsl c hc => ?_⟩
  have hnormal : Inv { s with reverse := false } := { h with }
  have hreversed : Inv { s with reverse := true } := { h with }
  obtain ⟨k, m, rfl⟩ : ∃ k m : Fin 3, c = 3 * k.val + m.val :=
    ⟨⟨c / 3, by omega⟩, ⟨c % 3, by omega⟩, by simp only; omega⟩
  have hlast : s.ledCount.toNat - 1 - sl < s.ledCount.toNat := by omega
  have hbyte := frameRead_tick_block hnormal hr hlast k m
  have hbyte' := frameRead_tick_block hreversed hr hsl k m
  rw [resolve_expireOverlay] at hbyte hbyte'
  rw [← Nat.add_assoc, ← Nat.add_assoc]
  exact hbyte'.trans hbyte.symm

end Sys2Proof.Machine

end

/-! ## RESET and the reserved commands -/

section

namespace Sys2Proof.Machine

/-- Settles O33: both rows raise ErrCmd, and neither is a row that waits. -/
theorem reservedCommandSetsErrCmd : Obligations.ReservedCommandSetsErrCmd :=
  fun _ _ => ⟨rfl, rfl, rfl, rfl⟩

theorem exec_reset_of_idle {s : State} (ht : s.txActive = false) (d : Word) :
    exec (.reset d) s = .next { s with
      pix := Memory.clearBelow s.params.maxLeds.toNat s.pix
      ovActive := false
      ovColor := 0
      ovCount := 0
      ovDur := 0
      ovStart := 0
      ovColorStg := 0
      ovCountStg := 0
      ovDurStg := 0
      dirty := true } := by
  rw [exec, execReset, if_neg (by simp [ht])]

theorem exec_reset_of_busy {s : State} (ht : s.txActive = true) (d : Word) :
    exec (.reset d) s = .next s := by
  rw [exec, execReset, if_pos ht, held_eq]

/-- RESET waits exactly while a transfer is in flight (30_encoding.md R97). -/
theorem waits_reset (d : Word) (s : State) : waits (.reset d) s = s.txActive := rfl

/-- Settles O45: idle, the store is cleared as `Memory.read_clearBelow` says. -/
theorem resetCommand : Obligations.ResetCommand := fun d s =>
  ⟨fun ht => ⟨ht, _, exec_reset_of_idle ht d, rfl, Memory.read_clearBelow _ s.pix⟩,
    fun ht => ⟨ht, exec_reset_of_busy ht d⟩⟩

end Sys2Proof.Machine

end

/-! ## The read-back of the frame and the shifter -/

section

namespace Sys2Proof.Machine

theorem toNat_zext {w : Nat} (hw : w ≤ 32) (v : BitVec w) : (zext v).toNat = v.toNat :=
  BitVec.toNat_setWidth_of_le hw

/-- The fields of the TX_POS word (44_transfer_engine.md R188). -/
theorem extractLsb'_txPos (b : BitVec 3) (y : BitVec 20) :
    (0#5 ++ b ++ 0#4 ++ y).extractLsb' 0 20 = y ∧ (0#5 ++ b ++ 0#4 ++ y).extractLsb' 20 4 = 0#4 ∧
    (0#5 ++ b ++ 0#4 ++ y).extractLsb' 24 3 = b ∧ (0#5 ++ b ++ 0#4 ++ y).extractLsb' 27 5 = 0#5 := by
  simp only [BitVec.extractLsb'_append_eq_of_le, BitVec.extractLsb'_append_eq_right,
    BitVec.extractLsb'_eq_self, Nat.reduceLeDiff, Nat.reduceSub, and_self]

/-- Settles O53; while busy the frame's length is that of the transfer in flight, by the invariant. -/
theorem frameAndShifterReadBack : Obligations.FrameAndShifterReadBack := by
  intro s
  refine ⟨⟨_, rfl, ?len, fun h hb => ?lenBusy⟩, fun hlt => ?inRange, fun hge => ?outOfRange,
    fun ht => ?posIdle, fun hb => ?posBusy⟩
  case len => rw [toNat_zext (by decide), frameLen_toNat]
  case lenBusy =>
    obtain ⟨-, hlen, hcount⟩ := h.busy hb
    rw [toNat_zext (by decide), frameLen_toNat, hlen, hcount]
  case inRange =>
    rw [exec, execRdFrameData, if_pos hlt]
    exact answer_zext (k := 24) rfl (frameRead s s.frameIndex.toNat) s
  case outOfRange => rw [exec, execRdFrameData, if_neg (Nat.not_lt.mpr hge), answer_eq]
  case posIdle => rw [exec, execRdTxPos, if_neg (by simp [ht]), answer_eq]
  case posBusy =>
    refine ⟨_, ?_, extractLsb'_txPos s.txBit s.txByte⟩
    rw [exec, execRdTxPos, if_pos hb, answer_eq]

end Sys2Proof.Machine

end

/-! ## The shifter's turn -/

section

namespace Sys2Proof.Machine

theorem dout_of_busy {s : State} (ht : s.txActive = true) :
    dout s = (frameRead s s.txByte.toNat).getLsbD s.txBit.toNat :=
  if_pos ht

theorem shiftStep_of_idle {s : State} (ht : s.txActive = false) : shiftStep s = s :=
  if_neg (by simp [ht])

theorem shiftStep_of_busy {s : State} (ht : s.txActive = true) :
    shiftStep s = advance (emit (dout s) s) :=
  if_pos ht

theorem advance_next_bit {s : State} (hb : 0 < s.txBit.toNat) :
    advance s = { s with txBit := s.txBit - 1 } :=
  if_pos hb

theorem advance_next_byte {s : State} (hb : s.txBit = 0) (hl : s.txByte.toNat + 1 < s.txLen.toNat) :
    advance s = { s with txBit := 7, txByte := s.txByte + 1 } := by
  rw [advance, if_neg (by simp [hb]), if_pos hl]

theorem advance_end {s : State} (hb : s.txBit = 0) (hl : s.txLen.toNat ≤ s.txByte.toNat + 1) :
    advance s = complete s := by
  rw [advance, if_neg (by simp [hb]), if_neg (Nat.not_lt.mpr hl)]

/-- Settles O46: idle, or the cell on DOUT is sent and the position moves in one of three ways. -/
theorem shifterSendsOneCell : Obligations.ShifterSendsOneCell := by
  intro s hn u
  have hstep : step s = .next (shiftStep u) := step_shift hn
  have hsend (ht : s.txActive = true) : step s =
      .next (advance (emit ((frameRead s s.txByte.toNat).getLsbD s.txBit.toNat) u)) := by
    rw [hstep, shiftStep_of_busy (s := u) ht, dout_of_busy (s := u) ht]
    rfl
  have hsend0 (ht : s.txActive = true) (hb : s.txBit = 0) :
      step s = .next (advance (emit ((frameRead s s.txByte.toNat).getLsbD 0) u)) := by
    rw [hsend ht, hb]
    rfl
  exact ⟨fun ht => hstep.trans (congrArg _ (shiftStep_of_idle ht)),
    fun ht hb => (hsend ht).trans (congrArg _ (advance_next_bit hb)),
    fun ht hb hl => (hsend0 ht hb).trans (congrArg _ (advance_next_byte hb hl)),
    fun ht hb hl => (hsend0 ht hb).trans (congrArg _ (advance_end hb hl))⟩

end Sys2Proof.Machine

end

/-! ## The phases, and the line outside the payload -/

section

namespace Sys2Proof.Machine

section Phase

variable (s : State)

theorem phase_eq_lead_iff :
    phase s = .lead ↔ s.txActive = true ∧ s.txByte.toNat < s.params.leadBytes.toNat := by
  unfold phase
  split_ifs <;> simp_all

theorem phase_eq_payload_iff :
    phase s = .payload ↔ s.txActive = true ∧ s.params.leadBytes.toNat ≤ s.txByte.toNat ∧
      s.txByte.toNat < s.params.leadBytes.toNat + 9 * s.txCount.toNat := by
  unfold phase
  split_ifs <;> simp_all

theorem phase_eq_latch_iff :
    phase s = .latch ↔ s.txActive = true ∧
      s.params.leadBytes.toNat + 9 * s.txCount.toNat ≤ s.txByte.toNat := by
  unfold phase
  split_ifs <;> simp_all
  omega

/-- The number of sent cells is below 8 n exactly when the byte is below n (20_memory.md R65 (c)). -/
theorem cellsSent_lt_iff (n : Nat) : cellsSent s < 8 * n ↔ s.txByte.toNat < n := by
  unfold cellsSent
  omega

theorem le_cellsSent_iff (n : Nat) : 8 * n ≤ cellsSent s ↔ n ≤ s.txByte.toNat := by
  unfold cellsSent
  omega

end Phase

theorem Inv.cellsSent_lt {s : State} (h : Inv s) (ht : s.txActive = true) :
    cellsSent s < 8 * s.txLen.toNat :=
  (cellsSent_lt_iff s _).mpr (h.busy ht).1

/-- Under the invariant the frame in flight is 0 outside its payload (20_memory.md R62). -/
theorem Inv.frameRead_outside {s : State} (h : Inv s) (ht : s.txActive = true) {j : Nat}
    (hj : j < s.params.leadBytes.toNat ∨ s.params.leadBytes.toNat + 9 * s.txCount.toNat ≤ j) :
    frameRead s j = 0 := by
  refine Memory.read_of_not_listed fun c hc => ?_
  have := h.frame_ge c hc
  have := h.frame_busy ht c hc
  omega

/-- Under the invariant the line is low outside the payload (44_transfer_engine.md R179). -/
theorem Inv.dout_outside_payload {s : State} (h : Inv s) (hp : phase s ≠ .payload) :
    dout s = false := by
  cases ht : s.txActive with
  | false => exact dout_of_idle ht
  | true =>
    rw [Ne, phase_eq_payload_iff] at hp
    rw [dout, if_pos ht, h.frameRead_outside ht (by simp only [ht, true_and] at hp; omega)]
    exact BitVec.getLsbD_zero

/-- Settles O47: each phase's interval of cells is 8 times its interval of bytes. -/
theorem phaseFollowsPositionAndLineIsLowOutsidePayload :
    Obligations.PhaseFollowsPositionAndLineIsLowOutsidePayload := by
  intro s h
  have hpayload : leadCells s.params + payloadCells s.txCount.toNat =
      8 * (s.params.leadBytes.toNat + 9 * s.txCount.toNat) := by
    unfold leadCells payloadCells; omega
  have hlatch : leadCells s.params + payloadCells s.txCount.toNat + latchCells s.params =
      8 * frameLen s.params s.txCount.toNat := by
    unfold leadCells payloadCells latchCells frameLen; omega
  rw [hlatch, hpayload, leadCells]
  simp only [cellsSent_lt_iff, le_cellsSent_iff]
  refine ⟨phase_eq_idle_iff s, phase_eq_lead_iff s, phase_eq_payload_iff s, ?_,
    h.dout_outside_payload⟩
  rw [phase_eq_latch_iff]
  refine and_congr_right fun ht => (and_iff_left ?_).symm
  obtain ⟨hlt, hlen, -⟩ := h.busy ht
  exact hlen ▸ hlt

end Sys2Proof.Machine

end

/-! ## A transfer in flight: what it sends, and what no step does to it -/

section

namespace Sys2Proof.Machine

theorem cellsSent_atCell {c : Nat} {s : State} (hc : c < 8 * s.txLen.toNat) :
    cellsSent (atCell c s) = c := by
  rw [cellsSent, txByte_atCell hc, txBit_atCell]
  omega

/-- Settles O48: the state is at the cell it has sent up to, and the drain lemmas run from there. -/
theorem transferSendsItsFrameInOrder : Obligations.TransferSendsItsFrameInOrder := by
  intro s h ht
  have hlt := h.cellsSent_lt ht
  have hcells (n : Nat) : (List.range n).map (fun j => frameCell s (cellsSent s + j)) =
      (List.range' (cellsSent s) n).map (frameCell s) := by
    rw [List.range'_eq_map_range, List.map_map]
    rfl
  refine ⟨hlt, fun n hn => ?before, ?complete⟩
  case before =>
    have hsteps := shiftSteps_atCell_of_lt (n := n) (c := cellsSent s) ht (by omega)
    rw [atCell_cellsSent] at hsteps
    rw [hsteps, hcells]
    exact ⟨ht, cellsSent_atCell (s := sent _ s) (by simp only [sent]; omega), rfl⟩
  case complete =>
    obtain ⟨n, hn⟩ : ∃ n, 8 * s.txLen.toNat - cellsSent s = n + 1 :=
      Nat.exists_eq_add_one.mpr (by omega)
    have hend := shiftSteps_atCell_end (n := n) (c := cellsSent s) ht (by omega)
    rw [atCell_cellsSent] at hend
    rw [hn, hend, hcells]
    rfl

/-- The transfer in flight in `s` is in flight in `t`, at the same position, with no cell sent in between. -/
def SameTransfer (s t : State) : Prop :=
  t.txActive = true ∧ t.txLen = s.txLen ∧ t.txCount = s.txCount ∧ t.txByte = s.txByte ∧
    t.txBit = s.txBit ∧ t.trace = s.trace

theorem sameTransfer_refl {s : State} (hb : s.txActive = true) : SameTransfer s s :=
  ⟨hb, rfl, rfl, rfl, rfl, rfl⟩

/-- No transaction stops or moves a transfer in flight: a TICK issues one only while idle. -/
theorem exec_sameTransfer {i : Instr} {s t : State} (h : exec i s = .next t) (hb : s.txActive = true) :
    SameTransfer s t := by
  cases exec_effect h with
  | tickIssue d hr => exact absurd hr.2 (by simp [hb])
  | _ => exact sameTransfer_refl hb

theorem hostStep_sameTransfer {s t : State} (h : hostStep s = .next t) (hb : s.txActive = true) :
    SameTransfer s t := by
  rcases hostStep_cases s with ⟨-, e⟩ | ⟨T, -, -, e⟩ | ⟨T, -, -, e⟩ <;> rw [e] at h
  · cases h; exact sameTransfer_refl hb
  · cases h; exact sameTransfer_refl hb
  · exact exec_sameTransfer (s := accept s) h hb

/-- A shifter step in a frame in flight: the next cell, or the last one and DONE. -/
theorem shiftStep_in_flight {s : State} (h : Inv s) (hb : s.txActive = true) :
    ((shiftStep s).txActive = true ∧ (shiftStep s).txLen = s.txLen ∧ (shiftStep s).txCount = s.txCount ∧
      cellsSent (shiftStep s) = cellsSent s + 1 ∧ cellsSent (shiftStep s) < 8 * s.txLen.toNat) ∨
    ((shiftStep s).txActive = false ∧ (shiftStep s).done = true ∧
      cellsSent s + 1 = 8 * s.txLen.toNat) := by
  have hat := atCell_cellsSent s
  rcases Nat.lt_or_eq_of_le (h.cellsSent_lt hb) with hlt | heq
  · have hstep := shiftStep_atCell_of_lt hb hlt
    have hcells := cellsSent_atCell (s := sent [frameCell s (cellsSent s)] s) hlt
    rw [hat] at hstep
    rw [hstep]
    exact .inl ⟨hb, rfl, rfl, hcells, hcells ▸ hlt⟩
  · have hstep := shiftStep_atCell_last hb heq
    rw [hat] at hstep
    rw [hstep]
    exact .inr ⟨rfl, rfl, heq⟩

/-- Settles O51, by the agent that moves. -/
theorem noStepCancelsATransfer : Obligations.NoStepCancelsATransfer := by
  intro s t h hb hs hp
  have hst : Inv (startTurn s) := { h with }
  rcases step_cases hs with ⟨-, hx⟩ | ⟨hn, rfl⟩ | ⟨now, -, rfl⟩ | ⟨hn, -⟩ | ⟨-, rfl⟩
  · exact .inl (hostStep_sameTransfer (s := startTurn s) hx hb)
  · exact .inr ⟨hn, (shiftStep_port_trace (s := startTurn s) hb).2, shiftStep_in_flight hst hb⟩
  · exact .inl (sameTransfer_refl hb)
  · exact absurd hn hp
  · exact .inl (sameTransfer_refl hb)

end Sys2Proof.Machine

end

/-! ## The causes of the error flags -/

section

namespace Sys2Proof

/-- The low bits of D are those of the word (30_encoding.md R90). -/
theorem extractLsb'_txnData {n : Nat} (hn : n ≤ 32) (T : Txn) :
    (txnData T).extractLsb' 0 n = T.extractLsb' 0 n := by
  apply BitVec.eq_of_getLsbD_eq
  intro i hi
  simp [txnData, hi, Nat.lt_of_lt_of_le hi hn]

/-- WE = 1 and the address, which fix the word but for D. -/
theorem selector_eq_write_iff (T : Txn) (a : BitVec 6) :
    T.extractLsb' 32 7 = 1#1 ++ a ↔ T = wrTxn a (txnData T) := by
  constructor
  · intro h
    have hsel : BitVec.ofBool (txnWe T) ++ txnAddr T = BitVec.ofBool true ++ a := selector_eq T ▸ h
    obtain ⟨hwe, ha⟩ := append_eq_append_iff.mp hsel
    conv_lhs => rw [txn_fields T, hwe, ha]
    rfl
  · intro h
    rw [h, selector_eq, txnWe_wrTxn, txnAddr_wrTxn]
    rfl

theorem exists_eq_wrTxn_iff (T : Txn) (a : BitVec 6) (P : Word → Prop) :
    (∃ d, T = wrTxn a d ∧ P d) ↔ T.extractLsb' 32 7 = 1#1 ++ a ∧ P (txnData T) := by
  rw [selector_eq_write_iff]
  constructor
  · rintro ⟨d, rfl, hd⟩
    simpa using hd
  · rintro ⟨hT, hd⟩
    exact ⟨txnData T, hT, hd⟩

/-- The words that decode to a write: its own word alone, since a write ignores no bit, and no word where the
instruction is ill-formed. -/
theorem decode_eq_write_iff {i : Instr} {a : BitVec 6} {d : Word} (he : encode i = wrTxn a d) (T : Txn) :
    decode T = i ↔ T = wrTxn a d ∧ i.wf = true := by
  constructor
  · rintro rfl
    refine ⟨?_, decode_wf T⟩
    rw [encode_decode] at he
    split at he
    case isTrue => exact he
    case isFalse hT =>
      have hwe := we_wrTxn a d
      rw [← he, BitVec.getLsbD_and, Bool.eq_false_iff.mpr hT] at hwe
      exact nomatch hwe
  · rintro ⟨rfl, hwf⟩
    rw [← he, decode_encode hwf]

/-- A write to CMD with a reserved code (44_transfer_engine.md R186). -/
def CmdError (i : Instr) : Prop := ∃ d, i = .cmdRsv4 d ∨ i = .cmdRsv8 d

/-- The two reserved rows of CMD are the codes from 4 on (30_encoding.md R98). -/
theorem reservedCode_iff : ∀ c : BitVec 4,
    (c.extractLsb' 2 2 = 0b01#2 ∨ c.getLsbD 3 = true) ↔ 4 ≤ c.toNat := by decide

theorem cmdError_decode_iff (T : Txn) :
    CmdError (decode T) ↔ T.extractLsb' 32 7 = 0x44 ∧ 4 ≤ (T.extractLsb' 0 4).toNat := by
  have h4 (d : Word) := decode_eq_write_iff (i := .cmdRsv4 d) (a := Reg.cmd.addr) rfl T
  have h8 (d : Word) := decode_eq_write_iff (i := .cmdRsv8 d) (a := Reg.cmd.addr) rfl T
  simp only [CmdError, h4, h8, Instr.wf, beq_iff_eq, ← and_or_left, reservedCode_iff]
  rw [exists_eq_wrTxn_iff T _ fun d => 4 ≤ (cmdCode d).toNat, cmdCode_txnData]
  rfl

end Sys2Proof

end

section

namespace Sys2Proof.Machine

/-- The transactions that raise ErrRange in state `s` (42_pixel_store.md R142, 41_config_status.md R125). -/
def RangeError (s : State) (i : Instr) : Prop :=
  (∃ d, i = .wrPixData d ∧ s.ledCount ≤ s.pixIndex) ∨
  (∃ d, i = .wrLedCount d ∧ s.params.maxLeds < d.extractLsb' 0 16)

theorem rangeError_decode_iff (s : State) (T : Txn) :
    RangeError s (decode T) ↔
      (T.extractLsb' 32 7 = 0x46 ∧ s.ledCount ≤ s.pixIndex) ∨
      (T.extractLsb' 32 7 = 0x43 ∧ s.params.maxLeds < T.extractLsb' 0 16) := by
  have hdata (d : Word) := decode_eq_write_iff (i := .wrPixData d) (a := Reg.pixData.addr) rfl T
  have hcount (d : Word) := decode_eq_write_iff (i := .wrLedCount d) (a := Reg.ledCount.addr) rfl T
  simp only [RangeError, hdata, hcount, Instr.wf, and_true]
  rw [exists_eq_wrTxn_iff T _ fun _ => s.ledCount ≤ s.pixIndex,
    exists_eq_wrTxn_iff T _ fun d => s.params.maxLeds < d.extractLsb' 0 16,
    extractLsb'_txnData (by decide)]
  rfl

variable {i : Instr} {s t : State}

theorem exec_of_rangeError (hr : RangeError s i) : exec i s = .next { s with errRange := true } := by
  rcases hr with ⟨d, rfl, hge⟩ | ⟨d, rfl, hgt⟩
  · exact exec_wrPixData_of_ge hge d
  · exact exec_wrLedCount_of_illegal (decide_eq_false (Nat.not_le_of_lt hgt))

/-- No other transaction sets ERR_RANGE (60_exceptions.md R201). -/
theorem exec_errRange_of_not_rangeError (h : exec i s = .next t) (hr : ¬ RangeError s i)
    (hf : s.errRange = false) : t.errRange = false := by
  cases i with
  | wrStatus d =>
    cases h
    simp [hf, w1c]
  | wrPixData d =>
    have hlt : s.pixIndex < s.ledCount := by simpa [RangeError] using hr
    cases (exec_wrPixData_of_lt hlt d).symm.trans h
    exact hf
  | wrLedCount d =>
    have hle : d.extractLsb' 0 16 ≤ s.params.maxLeds := by simpa [RangeError] using hr
    have hlegal : ledCountLegal d s = true := decide_eq_true hle
    cases ht : s.txActive with
    | false => cases (exec_wrLedCount_of_idle hlegal ht).symm.trans h; exact hf
    | true => cases (exec_wrLedCount_of_busy hlegal ht).symm.trans h; exact hf
  | _ => exact (exec_errRange h nofun nofun nofun).trans hf

theorem exec_errRange_iff (h : exec i s = .next t) (hf : s.errRange = false) :
    t.errRange = true ↔ RangeError s i := by
  constructor
  · intro ht
    by_contra hr
    simp [exec_errRange_of_not_rangeError h hr hf] at ht
  · intro hr
    cases h.symm.trans (exec_of_rangeError hr)
    rfl

theorem exec_of_cmdError (hc : CmdError i) : exec i s = .next { s with errCmd := true } := by
  rcases hc with ⟨d, rfl | rfl⟩ <;> rfl

theorem exec_errCmd_iff (h : exec i s = .next t) (hf : s.errCmd = false) :
    t.errCmd = true ↔ CmdError i := by
  constructor
  · intro ht
    cases exec_effect h with
    | status d => simp [w1c, hf] at ht
    | cmdRsv4 d => exact ⟨d, .inl rfl⟩
    | cmdRsv8 d => exact ⟨d, .inr rfl⟩
    | _ => exact absurd ht (by simp [hf])
  · intro hc
    cases h.symm.trans (exec_of_cmdError hc)
    rfl

/-- Settles O56: the instructions that raise each error, and the words that decode to them. -/
theorem causesOfTheErrorFlags : Obligations.CausesOfTheErrorFlags := by
  intro T s t h
  refine ⟨fun hf => ?range, fun hf => ?cmd, fun hf ht => ?rangeFrame, fun hf ht => ?cmdFrame,
    (pixDataRead s).2, ?frameData⟩
  case range => rw [exec_errRange_iff h hf, rangeError_decode_iff]
  case cmd => rw [exec_errCmd_iff h hf, cmdError_decode_iff]
  case rangeFrame =>
    have hr := (exec_errRange_iff h hf).mp ht
    exact Host.Outcome.next.inj (h.symm.trans (exec_of_rangeError hr))
  case cmdFrame =>
    have hc := (exec_errCmd_iff h hf).mp ht
    exact Host.Outcome.next.inj (h.symm.trans (exec_of_cmdError hc))
  case frameData =>
    obtain ⟨-, -, houtside, -, -⟩ := frameAndShifterReadBack s
    exact houtside

end Sys2Proof.Machine

end

/-! ## The sticky flags -/

section

namespace Sys2Proof.Machine

/-- Only a write of 1 clears a sticky flag that is set (10_state.md R33). -/
theorem clear_of_w1c_eq_false {flag clear : Bool} (hf : flag = true) (h : w1c flag clear = false) :
    clear = true := by
  simpa [w1c, hf] using h

/-- A transaction other than a STATUS write leaves a sticky flag that is set. -/
theorem exec_keeps_sticky {i : Instr} {s t : State} (h : exec i s = .next t)
    (hi : ∀ d, i ≠ .wrStatus d) :
    (s.done = true → t.done = true) ∧ (s.errRange = true → t.errRange = true) ∧
      (s.errCmd = true → t.errCmd = true) := by
  cases exec_effect h with
  | status d => exact absurd rfl (hi d)
  | tickEmpty d => exact ⟨fun _ => rfl, id, id⟩
  | ledCountError d => exact ⟨id, fun _ => rfl, id⟩
  | pixDataError d => exact ⟨id, fun _ => rfl, id⟩
  | cmdRsv4 d => exact ⟨id, id, fun _ => rfl⟩
  | cmdRsv8 d => exact ⟨id, id, fun _ => rfl⟩
  | _ => exact ⟨id, id, id⟩

/-- A shifter step sets DONE or leaves it, and leaves the two error flags (44_transfer_engine.md R180). -/
theorem shiftStep_sticky (s : State) :
    (s.done = true → (shiftStep s).done = true) ∧ (shiftStep s).errRange = s.errRange ∧
      (shiftStep s).errCmd = s.errCmd := by
  rcases shiftStep_cases s with ⟨-, e⟩ | ⟨-, -, e⟩ | ⟨-, -, -, e⟩ | ⟨-, -, -, e⟩ <;> simp [e]

/-- Settles O57: a transaction by whether it is a STATUS write, a step by the agent that moves. -/
theorem stickyFlagsStayUntilCleared : Obligations.StickyFlagsStayUntilCleared := by
  refine ⟨fun i s t h => ?transaction, fun s t h hh hp => ?turn⟩
  case transaction =>
    by_cases hi : ∃ d, i = .wrStatus d
    · obtain ⟨d, rfl⟩ := hi
      cases h
      exact ⟨fun hs ht => ⟨d, rfl, clear_of_w1c_eq_false hs ht⟩,
        fun hs ht => ⟨d, rfl, clear_of_w1c_eq_false hs ht⟩,
        fun hs ht => ⟨d, rfl, clear_of_w1c_eq_false hs ht⟩⟩
    · obtain ⟨hdone, hrange, hcmd⟩ := exec_keeps_sticky h (not_exists.mp hi)
      exact ⟨fun hs ht => by simp [hdone hs] at ht, fun hs ht => by simp [hrange hs] at ht,
        fun hs ht => by simp [hcmd hs] at ht⟩
  case turn =>
    rcases step_cases h with ⟨hn, -⟩ | ⟨-, rfl⟩ | ⟨now, -, rfl⟩ | ⟨hn, -⟩ | ⟨-, rfl⟩
    · exact absurd hn hh
    · exact shiftStep_sticky (startTurn s)
    · exact ⟨id, rfl, rfl⟩
    · exact absurd hn hp
    · exact ⟨id, rfl, rfl⟩

end Sys2Proof.Machine

end

/-! ## Time, idle turns, and no traps -/

section

namespace Sys2Proof.Machine

theorem hostStep_of_not_presented {s : State} (h : presented s = none) : hostStep s = .next s := by
  rw [hostStep, h]

/-- Settles O9, by the agent that moves. -/
theorem timeAndIdleTurnsLeaveTheBlock : Obligations.TimeAndIdleTurnsLeaveTheBlock := fun s =>
  ⟨fun _ hn => step_time hn, fun hn => step_idle hn, fun hn hp =>
    (step_host hn).trans (hostStep_of_not_presented (s := startTurn s) hp)⟩

theorem hostStep_next (s : State) : ∃ t, hostStep s = .next t := by
  rcases hostStep_cases s with ⟨-, e⟩ | ⟨T, -, -, e⟩ | ⟨T, -, -, e⟩ <;> rw [e]
  · exact ⟨s, rfl⟩
  · exact ⟨s, rfl⟩
  · exact exec_next _ _

/-- Every step answers a next state, by the agent that moves (60_exceptions.md R206). -/
theorem step_next (s : State) : ∃ t, step s = .next t := by
  cases hn : nextTurn s with
  | host => rw [step_host hn]; exact hostStep_next _
  | shift => exact ⟨_, step_shift hn⟩
  | time now => exact ⟨_, step_time hn⟩
  | powerOn => exact ⟨_, step_powerOn hn⟩
  | idle => exact ⟨_, step_idle hn⟩

/-- Settles O11, by the two totality lemmas. -/
theorem nothingTraps : Obligations.NothingTraps := ⟨exec_next, step_next⟩

/-- Another value on NOW_US: the three rows that branch do so on no element that it reaches, and the others
store or answer elements of the block. -/
theorem exec_presentTime {i : Instr} {s t : State} (v : Word) (htick : ∀ d, i ≠ .tick d)
    (hsplash : ∀ d, i ≠ .splash d) (hnow : i ≠ .rdNow) (h : exec i s = .next t) :
    exec i (presentTime v s) = .next (presentTime v t) := by
  cases i with
  | tick d => exact absurd rfl (htick d)
  | splash d => exact absurd rfl (hsplash d)
  | rdNow => exact absurd rfl hnow
  | wrLedCount d =>
    cases hd : ledCountLegal d s with
    | false =>
      cases (exec_wrLedCount_of_illegal hd).symm.trans h
      exact exec_wrLedCount_of_illegal (s := presentTime v s) hd
    | true =>
      cases ht : s.txActive with
      | false =>
        cases (exec_wrLedCount_of_idle hd ht).symm.trans h
        exact exec_wrLedCount_of_idle (s := presentTime v s) hd ht
      | true =>
        cases (exec_wrLedCount_of_busy hd ht).symm.trans h
        exact exec_wrLedCount_of_busy (s := presentTime v s) hd ht
  | reset d =>
    cases ht : s.txActive with
    | false =>
      cases (exec_reset_of_idle ht d).symm.trans h
      exact exec_reset_of_idle (s := presentTime v s) ht d
    | true =>
      cases (exec_reset_of_busy ht d).symm.trans h
      exact exec_reset_of_busy (s := presentTime v s) ht d
  | wrPixData d =>
    rcases Nat.lt_or_ge s.pixIndex.toNat s.ledCount.toNat with hlt | hge
    · cases (exec_wrPixData_of_lt hlt d).symm.trans h
      exact exec_wrPixData_of_lt (s := presentTime v s) hlt d
    · cases (exec_wrPixData_of_ge hge d).symm.trans h
      exact exec_wrPixData_of_ge (s := presentTime v s) hge d
  | _ =>
    cases h
    rfl

/-- Settles O10: the state with another value on NOW_US is `presentTime` of it. -/
theorem onlyTickSplashAndNowReadSampleTime : Obligations.OnlyTickSplashAndNowReadSampleTime :=
  fun _ _ _ v => exec_presentTime v

end Sys2Proof.Machine

end

/-! ## Power-on reset -/

section

namespace Sys2Proof.Machine

theorem powerOn_resetValues (p : Params) : ResetValues p (State.powerOn p) where
  params := rfl
  ledCount := rfl
  control := ⟨rfl, rfl⟩
  flags := ⟨rfl, rfl, rfl, rfl⟩
  indices := ⟨rfl, rfl, rfl⟩
  staging := ⟨rfl, rfl, rfl⟩
  overlay := ⟨rfl, rfl, rfl, rfl, rfl⟩
  shifter := ⟨rfl, rfl, rfl, rfl, rfl⟩
  pix := Memory.read_nil
  frame := Memory.read_nil

/-- RST_N gives the reset values: what it keeps is not in 10_state.md R22. -/
theorem powerOnReset_resetValues (s : State) : ResetValues s.params (powerOnReset s) :=
  { powerOn_resetValues s.params with }

/-- READY depends on the port, the busy condition and the parameters alone. -/
theorem ready_startTurn (s : State) : ready (startTurn s) = ready s := by
  cases hp : presented s with
  | none => simp [ready, portHeld, hp]
  | some T =>
    rw [ready_of_presented hp, ready_of_presented (s := startTurn s) hp, waits_startTurn]

/-- A held transaction is dropped (70_reset_and_hazards.md R220). -/
theorem powerOnReset_port_of_not_ready {s : State} (h : ready s = false) :
    (powerOnReset s).port = s.port.tail :=
  if_pos (by simpa [ready] using h)

theorem powerOnReset_port_of_ready {s : State} (h : ready s = true) :
    (powerOnReset s).port = s.port :=
  if_neg (by simpa [ready] using h)

/-- Settles O12: the turn is used up first, and READY does not depend on it. -/
theorem powerOnResetGivesResetValues : Obligations.PowerOnResetGivesResetValues :=
  ⟨powerOn_resetValues, fun s hn => ⟨_, step_powerOn hn, powerOnReset_resetValues (startTurn s), fun hr =>
    powerOnReset_port_of_not_ready ((ready_startTurn s).trans hr)⟩⟩

/-- Settles O13: RST_N copies these elements from the state before it. -/
theorem powerOnResetLeavesTheEnvironment : Obligations.PowerOnResetLeavesTheEnvironment :=
  fun s hn => ⟨_, step_powerOn hn,
    fun hr => powerOnReset_port_of_ready ((ready_startTurn s).trans hr), rfl, rfl, rfl, rfl, rfl⟩

/-- No transaction waits while no transfer is in flight (30_encoding.md R97). -/
theorem waits_of_idle {s : State} (ht : s.txActive = false) (i : Instr) : waits i s = false := by
  by_contra hw
  have hb := ((waits_iff i s).mp (Bool.eq_true_of_not_eq_false hw)).1
  simp [ht] at hb

/-- Settles O14: the reset state is idle, so nothing waits, and clean without an overlay, so a TICK does not
render. -/
theorem outputsAfterPowerOnReset : Obligations.OutputsAfterPowerOnReset := by
  intro p T port agenda now d r
  have hw : waits (decode T) r = false := waits_of_idle rfl _
  refine ⟨rfl, rfl, ?ready, step_performs (s := r) rfl rfl hw, ?tick⟩
  case ready => rw [ready_of_presented (s := r) (T := T) rfl, hw, Bool.not_false]
  case tick =>
    obtain ⟨-, hclean, -⟩ := tickGate d r
    exact hclean rfl rfl

end Sys2Proof.Machine

end

/-! ## A held transaction and the drain -/

section

namespace Sys2Proof.Machine

/-- The state with these turns granted and this value on Q. -/
def setTurns (agenda : List Turn) (q : Option Word) (s : State) : State := { s with agenda := agenda, q := q }

variable (agenda : List Turn) (q : Option Word) (s : State)

theorem advance_setTurns : advance (setTurns agenda q s) = setTurns agenda q (advance s) := by
  simp only [advance, apply_ite (setTurns agenda q)]
  rfl

/-- A shifter step neither reads nor writes the turns and Q. -/
theorem shiftStep_setTurns : shiftStep (setTurns agenda q s) = setTurns agenda q (shiftStep s) := by
  cases ht : s.txActive with
  | false => rw [shiftStep_of_idle ht, shiftStep_of_idle (s := setTurns agenda q s) ht]
  | true =>
    rw [shiftStep_of_busy ht, shiftStep_of_busy (s := setTurns agenda q s) ht, ← advance_setTurns]
    rfl

theorem run_succ {s t : State} (n : Nat) (h : step s = .next t) :
    Host.Core.run core (n + 1) s = Host.Core.run core n t := by
  have hs : core.step s = .next t := h
  simp only [Host.Core.run, hs]

/-- With the next `n` turns granted to the shifter, the machine makes `n` shifter steps. -/
theorem run_shiftTurns (n : Nat) (rest : List Turn) :
    ∃ q', Host.Core.run core n (setTurns (List.replicate n Turn.shift ++ rest) q s) =
      .next (setTurns rest q' (shiftSteps n s)) := by
  induction n generalizing q s with
  | zero => exact ⟨q, rfl⟩
  | succ n ih =>
    have hstep : step (setTurns (List.replicate (n + 1) Turn.shift ++ rest) q s) =
        .next (setTurns (List.replicate n Turn.shift ++ rest) none (shiftStep s)) :=
      (step_shift rfl).trans (congrArg _ (shiftStep_setTurns _ none s))
    obtain ⟨q', hrun⟩ := ih none (shiftStep s)
    exact ⟨q', (run_succ n hstep).trans hrun⟩

/-- Settles O8: the granted turns are the shifter steps that end the transfer, and idle no transaction waits. -/
theorem heldTransactionIsPerformedAfterDrain : Obligations.HeldTransactionIsPerformedAfterDrain := by
  intro s T rest h hp hw hagenda
  have ht : s.txActive = true := ((waits_iff _ s).mp hw).1
  obtain ⟨-, hlen, -⟩ := h.busy ht
  obtain ⟨-, -, hend⟩ := transferSendsItsFrameInOrder s h ht
  obtain ⟨q, hrun⟩ := run_shiftTurns s.q s (8 * s.txLen.toNat - cellsSent s) (.host :: rest)
  rw [← hagenda, hend] at hrun
  refine ⟨?bound, _, hrun, rfl, rfl, rfl, rfl, step_performs rfl hp (waits_of_idle rfl _)⟩
  rw [frameCells, ← hlen]
  exact Nat.sub_le _ _

end Sys2Proof.Machine

end
